-- ==== Sys2Proof/Word.lean ====
section
/-!
DEFINITION. The machine words of the block (spec/00_scope.md R3, R4): `u8` and `u16`, both unsigned.
Bit 0 is the least significant bit of every value; bit `i` of `v` is `v.getLsbD i`.
-/
namespace Sys2Proof

/-- `u8` (R4): `DATA_W` is 8 bits (R3). -/
abbrev Byte := BitVec 8

/-- `u16` (R4): the value of a 16-bit access (R44). -/
abbrev Half := BitVec 16

/-- A CPU address (R40): `ADDR_W` is 16 bits (R3). -/
abbrev Addr := BitVec 16

end Sys2Proof
end

