-- ==== Sys2Proof/Config.lean ====
section
/-!
DEFINITION. What is fixed for one machine: the parameters of spec/00_scope.md R3, the construction inputs of
spec/10_state.md R10, R11, R20, the open parameters `COLOR_BITS` (R136), `TILE_LAYOUT` (R146, R147), and the
stepping engines `EngineStep` (R170, R171, D31), which the spec leaves free.
-/
namespace Sys2Proof

/-- The three CPU identifiers (R3 `NCPU`, R77: a model's CPU type has three values). -/
inductive Cpu where
  | cpu1
  | cpu2
  | cpu3
deriving DecidableEq, Repr

/-- One value for each CPU. -/
structure PerCpu (α : Type) where
  c1 : α
  c2 : α
  c3 : α
deriving DecidableEq, Repr

/-- A byte array indexed by address, as a list of the cells that do not hold 0x00 (R12: the 64 KiB array is
zero-initialised; log entry 23). Its canonical form is `Memory.wf` of Machine/Ops.lean. -/
abbrev Memory := List Host.Cell

/-- An sRGB colour (R21, R135). -/
structure Color where
  r : Byte
  g : Byte
  b : Byte
deriving DecidableEq, Repr, Inhabited

/-- A pixel of a tile or of the frame, components in the order `(r, g, b, a)` (R22, R149). -/
structure Pixel where
  r : Byte
  g : Byte
  b : Byte
  a : Byte
deriving DecidableEq, Repr, Inhabited

/-- `colors : [Color; 32]` (R21, R137). -/
abbrev ColorTable := Vector Color 32

/-- `palettes : [[Color; 4]; 64]` (R21, R138). -/
abbrev PaletteTable := Vector (Vector Color 4) 64

/-- An 8×8 tile of pixels (R148), row by row from the top: pixel `(x, y)` is `t[y][x]`. -/
abbrev Tile := Vector (Vector Pixel 8) 8

/-- The frame buffer (R22), row by row from the top: `frame[x,y]` is `f[y][x]`, 224 pixels wide, 288 high. -/
abbrev Frame := Vector (Vector Pixel 224) 288

/-! ### Fixed numbers of R3 -/

/-- `CPU_HZ` (R3). -/
def cpuHz : Nat := 3072000
/-- `FRAME_HZ` (R3). -/
def frameHz : Nat := 60
/-- `VBLANK_CYCLES = CPU_HZ / 60 = 51 200` (R3, R175). -/
def vblankCycles : Nat := cpuHz / frameHz
/-- `NAMCO06_READ` (R3, R111; log entry 28). -/
def namco06Read : Byte := 0x10
/-- `TILE_MASK` (R3, R156). -/
def tileMask : Byte := 0x7F
/-- The lightest weight of a red or green bit (R135). -/
def weightLight : Nat := 0x21
/-- The middle weight of a red or green bit (R135). -/
def weightMiddle : Nat := 0x47
/-- The heaviest weight of a red or green bit (R135). -/
def weightHeavy : Nat := 0x97
/-- The lighter weight of a blue bit (R135). -/
def weightBlueLight : Nat := 0x51
/-- The heavier weight of a blue bit (R135). -/
def weightBlueHeavy : Nat := 0xAE
/-- The vector byte of CPU2's maskable interrupt (R179, D26, log entry 22). -/
def cpu2Vector : Byte := 0x00

/-! ### Open parameters -/

/-- `COLOR_BITS` (R136): the bit of a colour-PROM byte that carries each of the eight weights of R135. -/
structure ColorBits where
  rp0 : Fin 8
  rp1 : Fin 8
  rp2 : Fin 8
  gp0 : Fin 8
  gp1 : Fin 8
  gp2 : Fin 8
  bp0 : Fin 8
  bp1 : Fin 8
deriving DecidableEq, Repr

/-- The eight positions in the order of R136's listing. -/
def ColorBits.positions (cb : ColorBits) : List (Fin 8) :=
  [cb.rp0, cb.rp1, cb.rp2, cb.gp0, cb.gp1, cb.gp2, cb.bp0, cb.bp1]

/-- The default of R136. PRESUMED (log entry 9): the spec marks it as general knowledge. -/
def ColorBits.default : ColorBits := ⟨0, 1, 2, 3, 4, 5, 6, 7⟩

/-- Where the two plane bits of one pixel stand in a tile's sixteen bytes (R146). -/
structure PixelBits where
  byte0 : Fin 16
  bit0 : Fin 8
  byte1 : Fin 16
  bit1 : Fin 8
deriving DecidableEq, Repr

/-- `TILE_LAYOUT` (R146), the entry of pixel `(x, y)` at index `8 * y + x`. -/
abbrev TileLayout := Vector PixelBits 64

/-- The layout of R147, pixel `(x, y)`: the byte is `(8 if y < 4 else 0) + (7 - x)`, plane 0 is bit
`3 - y mod 4`, plane 1 is bit `7 - y mod 4`. -/
def defaultPixelBits (x y : Nat) : PixelBits :=
  let byte := Fin.ofNat 16 ((if y < 4 then 8 else 0) + (7 - x))
  { byte0 := byte, bit0 := Fin.ofNat 8 (3 - y % 4), byte1 := byte, bit1 := Fin.ofNat 8 (7 - y % 4) }

/-- The default of R147. PRESUMED (log entry 10): the spec marks it as general knowledge. -/
def TileLayout.default : TileLayout := Vector.ofFn fun i => defaultPixelBits (i.val % 8) (i.val / 8)

/-! ### Construction inputs -/

/-- What the host hands to the block at construction and nothing writes afterwards (R10, R11, R20), with the two
open parameters. It is a field of `State` so that a statement about every state speaks of every configuration
(log entry 6). -/
structure Config where
  /-- The image `rom1` starts from: 16 KiB (R10). -/
  rom1Image : Memory
  /-- The image `rom2` starts from: 4 KiB (R10). -/
  rom2Image : Memory
  /-- The image `rom3` starts from: 4 KiB (R10). -/
  rom3Image : Memory
  /-- `tile_rom`: 4096 bytes (R11, R145). -/
  tileRom : Memory
  /-- `color_prom`: 32 bytes (R11). -/
  colorProm : Vector Byte 32
  /-- `char_lookup`: 256 bytes (R11). -/
  charLookup : Vector Byte 256
  /-- `writable_rom` (R20). -/
  writableRom : Bool
  /-- `dip[0..7]` (R20; log entry 26). -/
  dip : Vector Byte 8
  /-- `COLOR_BITS` (R136). -/
  colorBits : ColorBits
  /-- `TILE_LAYOUT` (R146). -/
  tileLayout : TileLayout
deriving DecidableEq, Repr

/-- `DIP_DEFAULT` (R3, R20). -/
def dipDefault : Vector Byte 8 := #v[0x00, 0x00, 0x00, 0x00, 0x02, 0x00, 0x00, 0x00]

/-- The defaults of R20, R136, R147; the images, for which the spec gives no default, hold only zeros
(DESIGN CHOICE, log entry 6). -/
def Config.default : Config where
  rom1Image := []
  rom2Image := []
  rom3Image := []
  tileRom := []
  colorProm := Vector.replicate 32 0x00
  charLookup := Vector.replicate 256 0x00
  writableRom := false
  dip := dipDefault
  colorBits := .default
  tileLayout := .default

/-! ### The stepping engines: R170, R171, R172 -/

/-- What the block injects into an engine (R23, R171). -/
inductive Injection where
  /-- `inject_maskable(vector_low)`. -/
  | maskable (vectorLow : Byte)
  /-- `inject_nmi()`. -/
  | nmi
deriving DecidableEq, Repr

/-- What an engine does in one `step`, or while it accepts one injection (R170, R171, R172): a finite tree of
transactions in an order of its own, each answered before the next is chosen, of changes to its own `IE` flag, and
at the end the cycles it reports and its next state (a number that only the engine gives a meaning), or a
`DeviceFault` (R194). -/
inductive EngineProg where
  /-- The step ends: cycles consumed (any natural number, D20) and the engine's next state. -/
  | finish (cycles : Nat) (code : Nat)
  /-- "internal invariant violation from the stepping engine" (R194). -/
  | deviceFault
  /-- The engine changes its own `IE` flag (R172). -/
  | setIe (b : Bool) (rest : EngineProg)
  /-- The engine looks at its own `IE` flag (R172). -/
  | getIe (k : Bool → EngineProg)
  /-- `read8(c, a)`. -/
  | read8 (a : Addr) (k : Byte → EngineProg)
  /-- `write8(c, a, v)`. -/
  | write8 (a : Addr) (v : Byte) (rest : EngineProg)
  /-- `read16(c, a)`. -/
  | read16 (a : Addr) (k : Half → EngineProg)
  /-- `write16(c, a, v)`. -/
  | write16 (a : Addr) (v : Half) (rest : EngineProg)
  /-- `on_device_read(c, p)`. -/
  | portRead (p : Byte) (k : Byte → EngineProg)
  /-- `on_device_write(c, p, v)`. -/
  | portWrite (p : Byte) (v : Byte) (rest : EngineProg)
deriving Inhabited

/-- `EngineStep` (R170, D31): what the engine of CPU `c` in state `code` does in its next `step`. FREE VALUE
(log entry 7): it has no body, so a claim that mentions it holds for every engine. -/
opaque Config.engineStep (c : Cpu) (code : Nat) : EngineProg

/-- What the engine of CPU `c` in state `code` does while it accepts an injection (R171). FREE VALUE (log entry 7). -/
opaque Config.engineAccept (c : Cpu) (inj : Injection) (code : Nat) : EngineProg

/-- One act of an engine whose behaviour is given as data. -/
inductive EngineAct where
  | setIe (b : Bool)
  | read8 (a : Addr)
  | write8 (a : Addr) (v : Byte)
  | read16 (a : Addr)
  | write16 (a : Addr) (v : Half)
  | portRead (p : Byte)
  | portWrite (p : Byte) (v : Byte)
deriving DecidableEq, Repr

/-- The behaviour of one engine in one `step`, or in accepting one injection, given as data: what the tables of
spec/95_test_vectors.md PG2 and PG4 call a CPU's step. -/
structure Turn where
  /-- What the engine does, in order. -/
  acts : List EngineAct
  /-- Whether it then raises `DeviceFault` (R194). -/
  deviceFault : Bool
  /-- The cycles it reports (R170). -/
  cycles : Nat
  /-- Its state afterwards. -/
  code : Nat
deriving DecidableEq, Repr

end Sys2Proof
end

