-- ==== Sys2Proof/Syntax.lean ====
section
/-!
DEFINITION. The operations of the block (spec/30_encoding.md R70, R76): one constructor for each mnemonic of
spec/opcode_table.json, with the operands of its format (R71 to R74). A class whose addresses need several rows of
the table is ONE constructor that carries the address (log entry 1).
-/
namespace Sys2Proof

/-- One operation of the block with its operands. -/
inductive Instr where
  /-- `ROM1_RD`: `read8(1, a)`, 0x0000–0x3FFF (R90). -/
  | rom1Rd (a : Addr)
  /-- `ROM2_RD`: `read8(2, a)`, 0x0000–0x0FFF (R91). -/
  | rom2Rd (a : Addr)
  /-- `ROM2_RD_HOLE`: `read8(2, a)`, 0x1000–0x3FFF (R92). -/
  | rom2RdHole (a : Addr)
  /-- `ROM3_RD`: `read8(3, a)`, 0x0000–0x0FFF (R93). -/
  | rom3Rd (a : Addr)
  /-- `ROM3_RD_HOLE`: `read8(3, a)`, 0x1000–0x3FFF (R94). -/
  | rom3RdHole (a : Addr)
  /-- `ROM_WR`: `write8(c, a, v)` inside the backing array of `c`'s ROM (R95). -/
  | romWr (c : Cpu) (a : Addr) (v : Byte)
  /-- `ROM_WR_HOLE`: `write8(c, a, v)`, CPU2 or CPU3, 0x1000–0x3FFF (R97). -/
  | romWrHole (c : Cpu) (a : Addr) (v : Byte)
  /-- `DIP_RD`: `read8(c, a)`, 0x6800–0x6807 (R100). -/
  | dipRd (c : Cpu) (a : Addr)
  /-- `SND_WR`: `write8(c, a, v)`, 0x6800–0x681F (R101). -/
  | sndWr (c : Cpu) (a : Addr) (v : Byte)
  /-- `IRQ1_WR`: `write8(c, 0x6820, v)` (R102). -/
  | irq1Wr (c : Cpu) (v : Byte)
  /-- `IRQ2_WR`: `write8(c, 0x6821, v)` (R103). -/
  | irq2Wr (c : Cpu) (v : Byte)
  /-- `NMI3_WR`: `write8(c, 0x6822, v)` (R104). -/
  | nmi3Wr (c : Cpu) (v : Byte)
  /-- `HALT_WR`: `write8(c, 0x6823, v)` (R105). -/
  | haltWr (c : Cpu) (v : Byte)
  /-- `LATCH_UNIMPL_WR`: `write8(c, a, v)`, 0x6824–0x6827 (R106). -/
  | latchUnimplWr (c : Cpu) (a : Addr) (v : Byte)
  /-- `WDOG_WR`: `write8(c, 0x6830, v)` (R107). -/
  | wdogWr (c : Cpu) (v : Byte)
  /-- `N06_RD`: `read8(c, a)`, 0x7000–0x7100 (R111). -/
  | n06Rd (c : Cpu) (a : Addr)
  /-- `N06_WR`: `write8(c, a, v)`, 0x7000–0x7100 (R112). -/
  | n06Wr (c : Cpu) (a : Addr) (v : Byte)
  /-- `STAR_WR`: `write8(c, a, v)`, 0xA000–0xA005 (R113). -/
  | starWr (c : Cpu) (a : Addr) (v : Byte)
  /-- `FLIP_WR`: `write8(c, 0xA007, v)` (R114). -/
  | flipWr (c : Cpu) (v : Byte)
  /-- `RAM_RD`: `read8(c, a)` in a RAM window (R120). -/
  | ramRd (c : Cpu) (a : Addr)
  /-- `RAM_WR`: `write8(c, a, v)` in a RAM window (R121). -/
  | ramWr (c : Cpu) (a : Addr) (v : Byte)
  /-- `UNMAPPED_RD`: `read8(c, a)` in no read range (R116). -/
  | unmappedRd (c : Cpu) (a : Addr)
  /-- `UNMAPPED_WR`: `write8(c, a, v)` in no write range (R117). -/
  | unmappedWr (c : Cpu) (a : Addr) (v : Byte)
  /-- `PORT0_WR`: `on_device_write(1, 0, v)` (R130). -/
  | port0Wr (v : Byte)
  /-- `PORT_WR_OTHER`: `on_device_write(c, p, v)` with `(c, p) ≠ (1, 0)` (R131). -/
  | portWrOther (c : Cpu) (p : Byte) (v : Byte)
  /-- `PORT_RD`: `on_device_read(c, p)` (R132). -/
  | portRd (c : Cpu) (p : Byte)
  /-- `read16(c, a)` (R124). -/
  | read16 (c : Cpu) (a : Addr)
  /-- `write16(c, a, v)` (R125). -/
  | write16 (c : Cpu) (a : Addr) (v : Half)
  /-- `decode_color(b)` (R135). -/
  | decodeColor (b : Byte)
  /-- `build_colors(color_prom)` (R137). -/
  | buildColors (prom : Vector Byte 32)
  /-- `build_palettes(lookup_prom, colors)` (R138). -/
  | buildPalettes (lookup : Vector Byte 256) (colors : ColorTable)
  /-- `render_tile(tile_index, palette_index)`: the operand ranges of R151 are the types'. -/
  | renderTile (t : Byte) (p : BitVec 6)
  /-- `compose_frame()` (R163). -/
  | composeFrame
  /-- `loop_iter()` (R174). -/
  | loopIter
  /-- `handle_interrupts(c1)` (R175). -/
  | handleInterrupts (c1 : Nat)
  /-- `vblank_service()` (R176). -/
  | vblankService
  /-- `reset()` (R220). -/
  | reset
deriving DecidableEq, Repr

end Sys2Proof
end

