-- ==== Sys2Proof/WellFormed.lean ====
section
/-!
DEFINITION. Which terms of `Instr` are operations of the block: each decode class holds the addresses that
spec/20_memory.md R48 and the class's own rule give it. The ranges are written here as R48 lists them, inclusive at
both ends; Decode.lean matches them in the decoder's own way (R76, R123), and the round trip compares the two.
-/
namespace Sys2Proof

/-- `a` lies in the inclusive range `lo` to `hi` (R4). -/
def inRange (lo hi : Nat) (a : Addr) : Bool := decide (lo ≤ a.toNat) && decide (a.toNat ≤ hi)

/-- The four RAM windows (R48, R123). -/
def inRamWindow (a : Addr) : Bool :=
  inRange 0x8000 0x87FF a || inRange 0x8800 0x8BFF a || inRange 0x9000 0x93FF a || inRange 0x9800 0x9BFF a

/-- The read side's unmapped addresses, as R116 lists them. -/
def inUnmappedRead (a : Addr) : Bool :=
  inRange 0x4000 0x67FF a || inRange 0x6808 0x6FFF a || inRange 0x7101 0x7FFF a || inRange 0x8C00 0x8FFF a ||
  inRange 0x9400 0x97FF a || inRange 0x9C00 0xFFFF a

/-- The write side's unmapped addresses, as R117 lists them. -/
def inUnmappedWrite (a : Addr) : Bool :=
  inRange 0x4000 0x67FF a || inRange 0x6828 0x682F a || inRange 0x6831 0x6FFF a || inRange 0x7101 0x7FFF a ||
  inRange 0x8C00 0x8FFF a || inRange 0x9400 0x97FF a || inRange 0x9C00 0x9FFF a || inRange 0xA006 0xA006 a ||
  inRange 0xA008 0xFFFF a

/-- The addresses that have a cell in CPU `c`'s code ROM (R49, R95). -/
def inRomArray (c : Cpu) (a : Addr) : Bool :=
  match c with
  | .cpu1 => inRange 0x0000 0x3FFF a
  | .cpu2 => inRange 0x0000 0x0FFF a
  | .cpu3 => inRange 0x0000 0x0FFF a

/-- The addresses of the code-ROM region that have none (R49, R97). -/
def inRomHole (c : Cpu) (a : Addr) : Bool :=
  match c with
  | .cpu1 => false
  | .cpu2 => inRange 0x1000 0x3FFF a
  | .cpu3 => inRange 0x1000 0x3FFF a

/-- The operation exists: its operands lie in the class its mnemonic names (R76, R90 to R132). -/
def Instr.wf : Instr → Bool
  | .rom1Rd a => inRomArray .cpu1 a
  | .rom2Rd a => inRomArray .cpu2 a
  | .rom2RdHole a => inRomHole .cpu2 a
  | .rom3Rd a => inRomArray .cpu3 a
  | .rom3RdHole a => inRomHole .cpu3 a
  | .romWr c a _ => inRomArray c a
  | .romWrHole c a _ => inRomHole c a
  | .dipRd _ a => inRange 0x6800 0x6807 a
  | .sndWr _ a _ => inRange 0x6800 0x681F a
  | .irq1Wr _ _ => true
  | .irq2Wr _ _ => true
  | .nmi3Wr _ _ => true
  | .haltWr _ _ => true
  | .latchUnimplWr _ a _ => inRange 0x6824 0x6827 a
  | .wdogWr _ _ => true
  | .n06Rd _ a => inRange 0x7000 0x7100 a
  | .n06Wr _ a _ => inRange 0x7000 0x7100 a
  | .starWr _ a _ => inRange 0xA000 0xA005 a
  | .flipWr _ _ => true
  | .ramRd _ a => inRamWindow a
  | .ramWr _ a _ => inRamWindow a
  | .unmappedRd _ a => inUnmappedRead a
  | .unmappedWr _ a _ => inUnmappedWrite a
  | .port0Wr _ => true
  | .portWrOther c p _ => !(decide (c = .cpu1) && decide (p = 0))
  | .portRd _ _ => true
  | .read16 _ _ => true
  | .write16 _ _ _ => true
  | .decodeColor _ => true
  | .buildColors _ => true
  | .buildPalettes _ _ => true
  | .renderTile _ _ => true
  | .composeFrame => true
  | .loopIter => true
  | .handleInterrupts _ => true
  | .vblankService => true
  | .reset => true

end Sys2Proof
end

