-- ==== Sys2Proof/Decode.lean ====
section
/-!
DEFINITION. The transaction keys of spec/30_encoding.md (R71, R73), the calls by name (R72, R74), the decoder and,
after it, the encoder. The decoder follows R76 class by class; it is total and rejects by name what no row of
spec/opcode_table.json matches.
-/
namespace Sys2Proof

/-- The operations that no bit pattern selects: they are invoked by name with the operands of their signature
(formats BUS16 and EVENT: R72, R74, R82). -/
inductive CallName where
  | read16
  | write16
  | decodeColor
  | buildColors
  | buildPalettes
  | renderTile
  | composeFrame
  | loopIter
  | handleInterrupts
  | vblankService
  | reset
deriving DecidableEq, Repr

/-- One operation as its issuer presents it to the block (log entries 2 to 4). -/
inductive Request where
  /-- A byte transaction: the 19-bit key `K` and, on a write, the data byte `D` (R71). -/
  | bus8 (key : Nat) (data : Option Byte)
  /-- A device-port transaction: the 11-bit key `P` and, on a write, the data byte (R73). -/
  | port (key : Nat) (data : Option Byte)
  /-- An operation invoked by name, its operands as numbers (R72, R74). -/
  | call (name : CallName) (operands : List Nat)
deriving DecidableEq, Repr

/-- Why the decoder refuses a request. -/
inductive DecodeError where
  /-- The key has more bits than its format: BUS8 keys have 19, PORT keys 11 (R81). -/
  | keyTooWide
  /-- `cpu = 0b00` is reserved: "a decoder must refuse it; it is not an `UnmappedAddress`" (R77). -/
  | reservedCpu
  /-- A read carries no data byte (R71, R73). -/
  | dataOnRead
  /-- A write carries one (R71, R73). -/
  | dataMissing
  /-- The operands do not fit the signature of the operation called (R74, R151). -/
  | badOperands (name : CallName)
deriving DecidableEq, Repr

/-! ### Fields of the keys -/

/-- The CPU that a two-bit `cpu` field names; `0b00` names none (R71, R77). -/
def cpuOfCode : Nat → Option Cpu
  | 1 => some .cpu1
  | 2 => some .cpu2
  | 3 => some .cpu3
  | _ => none

/-- The two-bit code of a CPU (R71). -/
def cpuCode : Cpu → Nat
  | .cpu1 => 1
  | .cpu2 => 2
  | .cpu3 => 3

/-- `K[18]` (R71). -/
def busWr (key : Nat) : Bool := key / 0x40000 % 2 == 1
/-- `K[17:16]` (R71). -/
def busCpu (key : Nat) : Option Cpu := cpuOfCode (key / 0x10000 % 4)
/-- `K[15:0]` (R71). -/
def busAddr (key : Nat) : Addr := BitVec.ofNat 16 key
/-- `P[10]` (R73). -/
def portWr (key : Nat) : Bool := key / 0x400 % 2 == 1
/-- `P[9:8]` (R73). -/
def portCpu (key : Nat) : Option Cpu := cpuOfCode (key / 0x100 % 4)
/-- `P[7:0]` (R73). -/
def portNumber (key : Nat) : Byte := BitVec.ofNat 8 key

/-! ### The decode map, R76 -/

/-- The decode classes of a byte read (R76). -/
inductive ReadClass where
  | rom1
  | rom2
  | rom2Hole
  | rom3
  | rom3Hole
  | dip
  | ram
  | n06
  | unmapped
deriving DecidableEq, Repr

/-- The decode classes of a byte write (R76). -/
inductive WriteClass where
  | rom
  | romHole
  | irq1
  | irq2
  | nmi3
  | halt
  | latchUnimpl
  | ram
  | snd
  | n06
  | star
  | flip
  | wdog
  | unmapped
deriving DecidableEq, Repr

/-- "An address `a` is in a window exactly when `a[15:13] = 0b100` and (`a[12] = 0` and `a[11:10] ≠ 0b11`, or
`a[12] = 1` and `a[10] = 0`)" (R123). -/
def ramWindowBits (a : Addr) : Bool :=
  a.toNat / 0x2000 == 4 &&
    ((a.toNat / 0x1000 % 2 == 0 && a.toNat / 0x400 % 4 != 3) ||
     (a.toNat / 0x1000 % 2 == 1 && a.toNat / 0x400 % 2 == 0))

/-- The code-ROM region of CPU `c`, read (R76 step (1); R90 to R94). -/
def romReadClass (c : Cpu) (a : Addr) : ReadClass :=
  match c with
  | .cpu1 => .rom1
  | .cpu2 => if a.toNat < 0x1000 then .rom2 else .rom2Hole
  | .cpu3 => if a.toNat < 0x1000 then .rom3 else .rom3Hole

/-- The rest of the read map, the same for every CPU (R49; R76 steps (2), (4), (5), (6)). -/
def sharedReadClass (a : Addr) : ReadClass :=
  if 0x6800 ≤ a.toNat ∧ a.toNat ≤ 0x6807 then .dip
  else if ramWindowBits a then .ram
  else if 0x7000 ≤ a.toNat ∧ a.toNat ≤ 0x7100 then .n06
  else .unmapped

/-- The class of `read8(c, a)` (R76). -/
def readClass (c : Cpu) (a : Addr) : ReadClass := if a.toNat < 0x4000 then romReadClass c a else sharedReadClass a

/-- The code-ROM region of CPU `c`, written (R76 step (1); R95, R97). -/
def romWriteClass (c : Cpu) (a : Addr) : WriteClass :=
  match c with
  | .cpu1 => .rom
  | .cpu2 => if a.toNat < 0x1000 then .rom else .romHole
  | .cpu3 => if a.toNat < 0x1000 then .rom else .romHole

/-- The rest of the write map, the same for every CPU (R49; R76 steps (3), (4), (5), (6)). -/
def sharedWriteClass (a : Addr) : WriteClass :=
  if a.toNat = 0x6820 then .irq1
  else if a.toNat = 0x6821 then .irq2
  else if a.toNat = 0x6822 then .nmi3
  else if a.toNat = 0x6823 then .halt
  else if 0x6824 ≤ a.toNat ∧ a.toNat ≤ 0x6827 then .latchUnimpl
  else if ramWindowBits a then .ram
  else if 0x6800 ≤ a.toNat ∧ a.toNat ≤ 0x681F then .snd
  else if 0x7000 ≤ a.toNat ∧ a.toNat ≤ 0x7100 then .n06
  else if 0xA000 ≤ a.toNat ∧ a.toNat ≤ 0xA005 then .star
  else if a.toNat = 0xA007 then .flip
  else if a.toNat = 0x6830 then .wdog
  else .unmapped

/-- The class of `write8(c, a, _)` (R76). -/
def writeClass (c : Cpu) (a : Addr) : WriteClass :=
  if a.toNat < 0x4000 then romWriteClass c a else sharedWriteClass a

/-- The operation that a byte read is (R71, R76). -/
def decodeRead (c : Cpu) (a : Addr) : Instr :=
  match readClass c a with
  | .rom1 => .rom1Rd a
  | .rom2 => .rom2Rd a
  | .rom2Hole => .rom2RdHole a
  | .rom3 => .rom3Rd a
  | .rom3Hole => .rom3RdHole a
  | .dip => .dipRd c a
  | .ram => .ramRd c a
  | .n06 => .n06Rd c a
  | .unmapped => .unmappedRd c a

/-- The operation that a byte write is (R71, R76). -/
def decodeWrite (c : Cpu) (a : Addr) (v : Byte) : Instr :=
  match writeClass c a with
  | .rom => .romWr c a v
  | .romHole => .romWrHole c a v
  | .irq1 => .irq1Wr c v
  | .irq2 => .irq2Wr c v
  | .nmi3 => .nmi3Wr c v
  | .halt => .haltWr c v
  | .latchUnimpl => .latchUnimplWr c a v
  | .ram => .ramWr c a v
  | .snd => .sndWr c a v
  | .n06 => .n06Wr c a v
  | .star => .starWr c a v
  | .flip => .flipWr c v
  | .wdog => .wdogWr c v
  | .unmapped => .unmappedWr c a v

/-- The operation that a port write is (R130, R131). -/
def decodePortWrite (c : Cpu) (p : Byte) (v : Byte) : Instr :=
  if c = .cpu1 ∧ p = 0 then .port0Wr v else .portWrOther c p v

/-! ### Operands of the calls -/

/-- `n` bytes, one operand each. -/
def bytesOfOperands (n : Nat) (l : List Nat) : Option (Vector Byte n) :=
  if l.length = n ∧ l.all (· < 256) then some (Vector.ofFn fun i => BitVec.ofNat 8 (l.getD i.val 0)) else none

/-- The operands of a byte array. -/
def operandsOfBytes {n : Nat} (v : Vector Byte n) : List Nat := v.toList.map BitVec.toNat

/-- A colour table, three operands `r, g, b` for each entry. -/
def colorsOfOperands (l : List Nat) : Option ColorTable :=
  if l.length = 96 ∧ l.all (· < 256) then
    some (Vector.ofFn fun i =>
      { r := BitVec.ofNat 8 (l.getD (3 * i.val) 0)
        g := BitVec.ofNat 8 (l.getD (3 * i.val + 1) 0)
        b := BitVec.ofNat 8 (l.getD (3 * i.val + 2) 0) })
  else none

/-- The operands of a colour table. -/
def operandsOfColors (t : ColorTable) : List Nat :=
  t.toList.flatMap fun c => [c.r.toNat, c.g.toNat, c.b.toNat]

/-- A call with its operands checked against the signature (R70, R72, R151, R175). -/
def decodeCall (name : CallName) (l : List Nat) : Except DecodeError Instr :=
  let bad : Except DecodeError Instr := .error (.badOperands name)
  match name with
  | .read16 =>
    match l with
    | [c, a] =>
      match cpuOfCode c with
      | some cpu => if a < 0x10000 then .ok (.read16 cpu (BitVec.ofNat 16 a)) else bad
      | none => bad
    | _ => bad
  | .write16 =>
    match l with
    | [c, a, v] =>
      match cpuOfCode c with
      | some cpu =>
        if a < 0x10000 ∧ v < 0x10000 then .ok (.write16 cpu (BitVec.ofNat 16 a) (BitVec.ofNat 16 v)) else bad
      | none => bad
    | _ => bad
  | .decodeColor =>
    match l with
    | [b] => if b < 256 then .ok (.decodeColor (BitVec.ofNat 8 b)) else bad
    | _ => bad
  | .buildColors =>
    match bytesOfOperands 32 l with
    | some prom => .ok (.buildColors prom)
    | none => bad
  | .buildPalettes =>
    match bytesOfOperands 256 (l.take 256), colorsOfOperands (l.drop 256) with
    | some lookup, some colors => .ok (.buildPalettes lookup colors)
    | _, _ => bad
  | .renderTile =>
    match l with
    | [t, p] => if t < 256 ∧ p < 64 then .ok (.renderTile (BitVec.ofNat 8 t) (BitVec.ofNat 6 p)) else bad
    | _ => bad
  | .composeFrame => if l = [] then .ok .composeFrame else bad
  | .loopIter => if l = [] then .ok .loopIter else bad
  | .handleInterrupts =>
    match l with
    | [c1] => .ok (.handleInterrupts c1)
    | _ => bad
  | .vblankService => if l = [] then .ok .vblankService else bad
  | .reset => if l = [] then .ok .reset else bad

/-! ### The decoder -/

/-- Decode one request (R71, R73, R74, R76, R77): total, refusing by name. -/
def decode : Request → Except DecodeError Instr
  | .bus8 key data =>
    if key < 0x80000 then
      match busCpu key with
      | none => .error .reservedCpu
      | some c =>
        match busWr key, data with
        | false, none => .ok (decodeRead c (busAddr key))
        | false, some _ => .error .dataOnRead
        | true, some v => .ok (decodeWrite c (busAddr key) v)
        | true, none => .error .dataMissing
    else .error .keyTooWide
  | .port key data =>
    if key < 0x800 then
      match portCpu key with
      | none => .error .reservedCpu
      | some c =>
        match portWr key, data with
        | false, none => .ok (.portRd c (portNumber key))
        | false, some _ => .error .dataOnRead
        | true, some v => .ok (decodePortWrite c (portNumber key) v)
        | true, none => .error .dataMissing
    else .error .keyTooWide
  | .call name operands => decodeCall name operands

/-! ### The words of spec/opcode_table.json -/

/-- The data byte that stands above a key: the word of a write always has one; that of a read only where the bits
above the key are not all zero, and the decoder then refuses it. -/
def dataAbove (wr : Bool) (d : Nat) : Option Byte := if wr || d != 0 then some (BitVec.ofNat 8 d) else none

/-- The request whose bits the table's word `w` of `nbits` bits holds (log entry 3). A PORT key stands in two
bytes with the data byte above them, a BUS8 key in three with the data byte above them; the number of bits tells the
two formats apart. -/
def requestOfWord (nbits w : Nat) : Request :=
  if nbits ≤ 16 then .port (w % 0x10000) (dataAbove (portWr w) (w / 0x10000))
  else .bus8 (w % 0x1000000) (dataAbove (busWr w) (w / 0x1000000))

/-- The operation the decoder reads from a word of the table, if any. -/
def decodeTableWord (nbits w : Nat) : Option Instr :=
  match decode (requestOfWord nbits w) with
  | .ok i => some i
  | .error _ => none

/-! ### The encoder -/

/-- `K = wr × 0x40000 + cpu × 0x10000 + addr` (R71). -/
def busKey (wr : Bool) (c : Cpu) (a : Addr) : Nat := wr.toNat * 0x40000 + cpuCode c * 0x10000 + a.toNat

/-- `P = wr × 0x400 + cpu × 0x100 + port` (R73). -/
def portKey (wr : Bool) (c : Cpu) (p : Byte) : Nat := wr.toNat * 0x400 + cpuCode c * 0x100 + p.toNat

/-- The request of a byte read. -/
def encodeRead (c : Cpu) (a : Addr) : Request := .bus8 (busKey false c a) none

/-- The request of a byte write. -/
def encodeWrite (c : Cpu) (a : Addr) (v : Byte) : Request := .bus8 (busKey true c a) (some v)

/-- The request of an operation, from the encodings of R90 to R132 and the signatures of R70. -/
def encode : Instr → Request
  | .rom1Rd a => encodeRead .cpu1 a
  | .rom2Rd a => encodeRead .cpu2 a
  | .rom2RdHole a => encodeRead .cpu2 a
  | .rom3Rd a => encodeRead .cpu3 a
  | .rom3RdHole a => encodeRead .cpu3 a
  | .romWr c a v => encodeWrite c a v
  | .romWrHole c a v => encodeWrite c a v
  | .dipRd c a => encodeRead c a
  | .sndWr c a v => encodeWrite c a v
  | .irq1Wr c v => encodeWrite c 0x6820 v
  | .irq2Wr c v => encodeWrite c 0x6821 v
  | .nmi3Wr c v => encodeWrite c 0x6822 v
  | .haltWr c v => encodeWrite c 0x6823 v
  | .latchUnimplWr c a v => encodeWrite c a v
  | .wdogWr c v => encodeWrite c 0x6830 v
  | .n06Rd c a => encodeRead c a
  | .n06Wr c a v => encodeWrite c a v
  | .starWr c a v => encodeWrite c a v
  | .flipWr c v => encodeWrite c 0xA007 v
  | .ramRd c a => encodeRead c a
  | .ramWr c a v => encodeWrite c a v
  | .unmappedRd c a => encodeRead c a
  | .unmappedWr c a v => encodeWrite c a v
  | .port0Wr v => .port (portKey true .cpu1 0) (some v)
  | .portWrOther c p v => .port (portKey true c p) (some v)
  | .portRd c p => .port (portKey false c p) none
  | .read16 c a => .call .read16 [cpuCode c, a.toNat]
  | .write16 c a v => .call .write16 [cpuCode c, a.toNat, v.toNat]
  | .decodeColor b => .call .decodeColor [b.toNat]
  | .buildColors prom => .call .buildColors (operandsOfBytes prom)
  | .buildPalettes lookup colors => .call .buildPalettes (operandsOfBytes lookup ++ operandsOfColors colors)
  | .renderTile t p => .call .renderTile [t.toNat, p.toNat]
  | .composeFrame => .call .composeFrame []
  | .loopIter => .call .loopIter []
  | .handleInterrupts c1 => .call .handleInterrupts [c1]
  | .vblankService => .call .vblankService []
  | .reset => .call .reset []

end Sys2Proof
end

