-- ==== Sys2Proof/Machine/State.lean ====
section
/-!
DEFINITION. The state of the block (spec/10_state.md R10 to R31), the kinds of fault it records
(spec/60_exceptions.md R190 to R199), the reasons a step of the model stops, and the state after reset (R30, R220).
-/
namespace Sys2Proof.Machine

/-- The direction that `UnmappedAddress` records: `op ∈ {read, write}` (R190, D17). -/
inductive BusOp where
  | read
  | write
deriving DecidableEq, Repr

/-- The PROM that a `TableBuildError` names (R198). -/
inductive PromName where
  | charLookup
deriving DecidableEq, Repr

/-- The fault kinds that the block records in its `fault` cell (R19, R190). `Unimplemented`, which R193 says is no
fault, is `Diag`. -/
inductive FaultKind where
  /-- `UnmappedAddress{cpu, addr, op}` (R191). -/
  | unmappedAddress (c : Cpu) (a : Addr) (op : BusOp)
  /-- `ReadOnlyWrite{cpu, addr, value}` (R192, R95). -/
  | readOnlyWrite (c : Cpu) (a : Addr) (v : Byte)
  /-- `DeviceFault`: raised by a stepping engine (R194); no payload is stated (log entry 24). -/
  | deviceFault
  /-- `TableBuildError{prom, index, value}` (R139, R198). -/
  | tableBuildError (prom : PromName) (index : Nat) (value : Byte)
deriving DecidableEq, Repr

/-- The subsystems that a diagnostic names (R193, D17). -/
inductive Subsystem where
  | rom2
  | sound
  | latch
  | namco06xx
  | starfield
  | flipscreen
  | port
deriving DecidableEq, Repr

/-- One event `Unimplemented{subsystem, addr, value}` of the stream `diag` (R23, R193). -/
structure Diag where
  subsystem : Subsystem
  addr : Addr
  value : Byte
deriving DecidableEq, Repr

/-- What the last operation returned to its issuer (R70; the model's own, log entry 5). -/
inductive Reply where
  /-- The operation returns nothing. -/
  | nothing
  /-- `u8`: `read8`, `on_device_read`. -/
  | byte (v : Byte)
  /-- `u16`: `read16`. -/
  | word (v : Half)
  /-- `Color`: `decode_color`. -/
  | color (c : Color)
  /-- `[Color; 32]`: `build_colors`. -/
  | colors (t : ColorTable)
  /-- `[[Color; 4]; 64]`: `build_palettes`. -/
  | palettes (t : PaletteTable)
  /-- `8×8 RGBA`: `render_tile`. -/
  | tile (t : Tile)
deriving DecidableEq, Repr

/-- One stepping engine as the block sees it (R29, R170; the model's own, log entries 7 and 8). -/
structure Engine where
  /-- The engine's own state, a number to which only the engine gives a meaning. -/
  code : Nat
  /-- What its next steps do, where that is given; when it is empty they are `Config.engineStep`'s. -/
  steps : List Turn
  /-- What it does when it accepts its next injections, where that is given; else `Config.engineAccept`'s. -/
  accepts : List Turn
deriving DecidableEq, Repr

/-- Why the machine stops for good. -/
inductive Fault where
  /-- Raised by every operation but `reset()` once the `fault` cell holds a record: "once it is set no operation of
  the block runs" (R19, R195, R196, U7). Safe: the spec gives such an operation no effect. -/
  | stopped (k : FaultKind)
deriving DecidableEq, Repr

/-- Why the model gives a request no meaning. -/
inductive Refusal where
  /-- Raised by an arm of `exec` whose instruction has no meaning yet. Safe. -/
  | notModelled (mnemonic : String)
  /-- Raised by `step` on a request that the decoder refuses, such as a key with `cpu = 0b00` (R77). Safe: "No agent
  of the machine produces it". -/
  | undecodable (e : DecodeError)
  /-- Raised by a meaning on a term of `Instr` that is no operation of the block (`Instr.wf` is false), which the
  decoder never answers. Safe. -/
  | malformed
deriving DecidableEq, Repr

/-- The state of the machine. The last three fields are the model's own. -/
structure State where
  /-- The construction inputs and the open parameters (R10, R11, R20, R136, R146). -/
  config : Config
  /-- `rom1 : [u8; 16384]` (R10). -/
  rom1 : Memory
  /-- `rom2 : [u8; 4096]` (R10). -/
  rom2 : Memory
  /-- `rom3 : [u8; 4096]` (R10). -/
  rom3 : Memory
  /-- `mem : [u8; 65536]`, the shared array (R12). -/
  mem : Memory
  /-- `IE[1]`, `IE[2]`, `IE[3]` (R15). -/
  ie : PerCpu Bool
  /-- `halt2` (R16). -/
  halt2 : Bool
  /-- `halt3` (R16). -/
  halt3 : Bool
  /-- `port0` (R17). -/
  port0 : Byte
  /-- `csi` (R18). -/
  csi : Nat
  /-- `fault` (R19). -/
  fault : Option FaultKind
  /-- `colors` (R21; held as state, log entry 25). -/
  colors : ColorTable
  /-- `palettes` (R21). -/
  palettes : PaletteTable
  /-- `frame` (R22). -/
  frame : Frame
  /-- `diag`, oldest first (R23). -/
  diag : List Diag
  /-- `irq_out[1..3]` as one list, oldest first, each injection with its CPU, so that the order of R182 is kept
  (R23, log entry 18). -/
  irqOut : List (Cpu × Injection)
  /-- `frame_out`, oldest first (R23). -/
  frameOut : List Frame
  /-- The stepping engines, outside the block (R29, R170). -/
  engines : PerCpu Engine
  /-- The operations that an issuer outside the loop has presented, next first (log entry 2). -/
  requests : List Request
  /-- What the last operation returned (log entry 5). -/
  reply : Reply
deriving DecidableEq, Repr

/-- The colour 0x00 decodes to (R135). -/
def black : Color := ⟨0x00, 0x00, 0x00⟩

/-- The frame buffer before the first composition. DESIGN CHOICE (log entry 12): R22 leaves its content open and
says that nothing reads it then. -/
def blankFrame : Frame := Vector.replicate 288 (Vector.replicate 224 ⟨0x00, 0x00, 0x00, 0x00⟩)

/-- An engine with nothing given about it (log entry 8). -/
def idleEngine : Engine := { code := 0, steps := [], accepts := [] }

/-- The state after reset (R30, R220) of the machine constructed with the default configuration (log entry 6). The
two tables are what the builders make of its PROMs (`reset_tables_are_built` of Laws/Video.lean); `IE`, `port0` and
`csi` have the values the spec decides on (D11 to D13, log entry 11). -/
def State.reset : State where
  config := .default
  rom1 := []
  rom2 := []
  rom3 := []
  mem := []
  ie := ⟨false, false, false⟩
  halt2 := true
  halt3 := true
  port0 := 0x00
  csi := 0
  fault := none
  colors := Vector.replicate 32 black
  palettes := Vector.replicate 64 (Vector.replicate 4 black)
  frame := blankFrame
  diag := []
  irqOut := []
  frameOut := []
  engines := ⟨idleEngine, idleEngine, idleEngine⟩
  requests := []
  reply := .nothing

end Sys2Proof.Machine
end

