-- ==== Sys2Proof/Machine/Ops.lean ====
section
/-!
DEFINITION. The named operations over memory and over the cells of the state, the result of an operation, taking a
fatal fault (spec/60_exceptions.md R195), and the frame in which every meaning runs.
-/
namespace Sys2Proof

/-! ### Byte arrays -/

/-- The byte at address `a`; an address with no entry holds 0x00 ("is zero-initialised on start", R12). -/
def Memory.read (m : Memory) (a : Nat) : Byte :=
  match m with
  | [] => 0x00
  | (k, v) :: rest => if k = a then v else Memory.read rest a

/-- Store `v` at `a`, keeping the addresses rising and listing no zero. -/
def Memory.write (m : Memory) (a : Nat) (v : Byte) : Memory :=
  match m with
  | [] => if v = 0x00 then [] else [(a, v)]
  | (k, w) :: rest =>
    if a < k then
      if v = 0x00 then (k, w) :: rest else (a, v) :: (k, w) :: rest
    else if a = k then
      if v = 0x00 then rest else (a, v) :: rest
    else (k, w) :: Memory.write rest a v

/-- The addresses rise strictly from `lo` on and no entry holds 0x00. -/
def Memory.wfFrom (lo : Nat) (m : Memory) : Bool :=
  match m with
  | [] => true
  | (k, v) :: rest => decide (lo ≤ k) && (decide (v ≠ 0x00) && Memory.wfFrom (k + 1) rest)

/-- The canonical form: equal arrays are equal lists. -/
def Memory.wf (m : Memory) : Bool := Memory.wfFrom 0 m

/-- Every listed address satisfies `p`. -/
def Memory.within (p : Nat → Bool) (m : Memory) : Bool := m.all fun cell => p cell.1

/-! ### Values per CPU -/

/-- The value of CPU `c`. -/
def PerCpu.get {α : Type} (t : PerCpu α) : Cpu → α
  | .cpu1 => t.c1
  | .cpu2 => t.c2
  | .cpu3 => t.c3

/-- Replace the value of CPU `c`. -/
def PerCpu.set {α : Type} (t : PerCpu α) (c : Cpu) (x : α) : PerCpu α :=
  match c with
  | .cpu1 => { t with c1 := x }
  | .cpu2 => { t with c2 := x }
  | .cpu3 => { t with c3 := x }

namespace Machine

/-! ### Cells of the state -/

/-- The code ROM of CPU `c` (R10, R49). -/
def State.romOf (s : State) : Cpu → Memory
  | .cpu1 => s.rom1
  | .cpu2 => s.rom2
  | .cpu3 => s.rom3

/-- Replace the code ROM of CPU `c`. -/
def State.setRom (s : State) (c : Cpu) (m : Memory) : State :=
  match c with
  | .cpu1 => { s with rom1 := m }
  | .cpu2 => { s with rom2 := m }
  | .cpu3 => { s with rom3 := m }

/-- Replace the shared array. -/
def State.setMem (s : State) (m : Memory) : State := { s with mem := m }
/-- `IE[c] <- b`. -/
def State.setIe (s : State) (c : Cpu) (b : Bool) : State := { s with ie := s.ie.set c b }
/-- `halt2 <- b`. -/
def State.setHalt2 (s : State) (b : Bool) : State := { s with halt2 := b }
/-- `halt3 <- b`. -/
def State.setHalt3 (s : State) (b : Bool) : State := { s with halt3 := b }
/-- `port0 <- v`. -/
def State.setPort0 (s : State) (v : Byte) : State := { s with port0 := v }
/-- `csi <- n`. -/
def State.setCsi (s : State) (n : Nat) : State := { s with csi := n }
/-- `fault <- k`. -/
def State.setFault (s : State) (k : Option FaultKind) : State := { s with fault := k }
/-- `colors <- t`. -/
def State.setColors (s : State) (t : ColorTable) : State := { s with colors := t }
/-- `palettes <- t`. -/
def State.setPalettes (s : State) (t : PaletteTable) : State := { s with palettes := t }
/-- Replace the frame buffer. -/
def State.setFrame (s : State) (f : Frame) : State := { s with frame := f }
/-- `log Unimplemented{sub, a, v}` (R5, R193). -/
def State.addDiag (s : State) (sub : Subsystem) (a : Addr) (v : Byte) : State :=
  { s with diag := s.diag ++ [{ subsystem := sub, addr := a, value := v }] }
/-- `emit inj to irq_out[c]` (R5, R171). -/
def State.addIrq (s : State) (c : Cpu) (inj : Injection) : State := { s with irqOut := s.irqOut ++ [(c, inj)] }
/-- `emit f to frame_out` (R5, R166). -/
def State.addFrame (s : State) (f : Frame) : State := { s with frameOut := s.frameOut ++ [f] }
/-- Replace the engine of CPU `c`. -/
def State.setEngine (s : State) (c : Cpu) (e : Engine) : State := { s with engines := s.engines.set c e }
/-- Replace the operations presented from outside the loop. -/
def State.setRequests (s : State) (l : List Request) : State := { s with requests := l }
/-- Answer the issuer. -/
def State.setReply (s : State) (r : Reply) : State := { s with reply := r }

/-- `irq_out[c]` (R23): the injections made into engine `c`, oldest first. -/
def State.irqOutOf (s : State) (c : Cpu) : List Injection :=
  s.irqOut.filterMap fun e => if e.1 = c then some e.2 else none

/-- A CPU is Halted exactly when its halt flag is set; CPU1 has none and is always Running (R16, R173). -/
def State.halted (s : State) : Cpu → Bool
  | .cpu1 => false
  | .cpu2 => s.halt2
  | .cpu3 => s.halt3

/-! ### Results and faults -/

/-- How an operation ends: with a value, or in a fatal fault that its state records. -/
inductive Ran (α : Type) where
  | done (v : α) (s : State)
  | raised (s : State)

/-- Go on with the value and the state, unless a fault was raised: the fault aborts "the operation in progress and
every enclosing operation" (R5). -/
def Ran.bind {α β : Type} (r : Ran α) (f : α → State → Ran β) : Ran β :=
  match r with
  | .done v s => f v s
  | .raised s => .raised s

/-- Change the value. -/
def Ran.map {α β : Type} (f : α → β) (r : Ran α) : Ran β :=
  match r with
  | .done v s => .done (f v) s
  | .raised s => .raised s

/-- The state the operation ends in, either way. -/
def Ran.state {α : Type} : Ran α → State
  | .done _ s => s
  | .raised s => s

/-- Fatal fault entry (R195): "`fault <- K(info)`" if `fault` is empty (R5); nothing else changes, there is "no
handler address, no saved state and no mode change". The return from it is `reset()` alone (R196; Reset.lean). -/
def raise {α : Type} (k : FaultKind) (s : State) : Ran α := .raised (s.setFault (some (s.fault.getD k)))

/-- The outcome of an operation: its value is the reply. A fault that was taken is a next state, the one that
records it (log entry 13). -/
def Ran.outcome (r : Ran Reply) : Host.Outcome State Fault Refusal :=
  match r with
  | .done v s => .next (s.setReply v)
  | .raised s => .next (s.setReply .nothing)

/-- Run operation `i`: "once it is set no operation of the block runs" (R19, R195) is checked here, and that the
term is an operation of the block (log entry 16). -/
def issue (i : Instr) (s : State) (body : State → Ran Reply) : Host.Outcome State Fault Refusal :=
  match s.fault with
  | some k => .fault (.stopped k)
  | none => if i.wf then (body s).outcome else .refused .malformed

end Machine
end Sys2Proof
end

