-- ==== Sys2Proof/Machine/Flags.lean ====
section
/-!
DEFINITION. The Boolean cells a latch write stores, each a test of the whole byte (spec/10_state.md R24,
spec/20_memory.md R64(f)), and the VBLANK test (spec/47_sequencer.md R175).
-/
namespace Sys2Proof.Machine

/-- `IE[1] <- (v ≠ 0)`, `IE[2] <- (v ≠ 0)` (R102, R103). -/
def enableOf (v : Byte) : Bool := v != 0x00

/-- `IE[3] <- (v = 0)`: the sense is inverted (R104). -/
def nmiEnableOf (v : Byte) : Bool := v == 0x00

/-- `halt2 <- (v = 0); halt3 <- (v = 0)` (R105; polarity as stated, D25, log entry 20). -/
def haltOf (v : Byte) : Bool := v == 0x00

/-- The VBLANK service is due: "The comparison is `≥`" (R175). -/
def vblankDue (csi : Nat) : Bool := decide (vblankCycles ≤ csi)

end Sys2Proof.Machine
end

