-- ==== Sys2Proof/Machine/Operands.lean ====
section
/-!
DEFINITION. How operands are taken apart and put together (spec/30_encoding.md R75, spec/20_memory.md R41, R43,
spec/46_composer.md R156). Nothing is extended or scaled.
-/
namespace Sys2Proof.Machine

/-- `lo = value[7:0]` (R75). -/
def loByte (v : Half) : Byte := v.extractLsb' 0 8

/-- `hi = value[15:8]` (R75). -/
def hiByte (v : Half) : Byte := v.extractLsb' 8 8

/-- `hi ++ lo` (R124): little-endian, the low byte at the lower address (R41). -/
def joinBytes (hi lo : Byte) : Half := hi ++ lo

/-- `(a + 1) mod 65536` (R43). -/
def nextAddr (a : Addr) : Addr := a + 1

/-- The DIP index, `addr[2:0]` (R75, R100). -/
def dipIndex (a : Addr) : Fin 8 := ⟨a.toNat % 8, Nat.mod_lt _ (by decide)⟩

/-- The address of tile slot `i`'s code byte (R122, R156). -/
def codeAddr (i : Nat) : Nat := 0x8000 + i

/-- The address of tile slot `i`'s palette byte (R122, R156). -/
def attrAddr (i : Nat) : Nat := 0x8400 + i

/-- The tile a code byte draws, `& 0x7F` (R156). -/
def tileOfCode (code : Byte) : Byte := code &&& tileMask

/-- The palette a slot's second byte selects, `& 0x3F`: its low six bits (R156). -/
def paletteOfAttr (attr : Byte) : BitVec 6 := attr.extractLsb' 0 6

/-- The 16-bit form in which a diagnostic holds a port number (R131, R132; log entry 19). -/
def portAddr (p : Byte) : Addr := p.zeroExtend 16

end Sys2Proof.Machine
end

