-- ==== Sys2Proof/Machine/BusMmio.lean ====
section
/-!
DEFINITION. Bus operations on the MMIO ranges, and the unmapped default (spec/41_bus_mmio.md R100 to R117). They do
the same for every CPU.
-/
namespace Sys2Proof.Machine

/-- `return dip[a − 0x6800]` (R100). -/
def dipRead (a : Addr) (s : State) : Ran Byte := .done s.config.dip[dipIndex a] s

/-- A write that is accepted, logged and stored nowhere (R101, R106, R112 to R114, D9). -/
def sinkWrite (sub : Subsystem) (a : Addr) (v : Byte) (s : State) : Ran Unit := .done () (s.addDiag sub a v)

/-- `IE[1] <- (v ≠ 0)` (R102). -/
def irq1Write (v : Byte) (s : State) : Ran Unit := .done () (s.setIe .cpu1 (enableOf v))

/-- `IE[2] <- (v ≠ 0)` (R103). -/
def irq2Write (v : Byte) (s : State) : Ran Unit := .done () (s.setIe .cpu2 (enableOf v))

/-- `IE[3] <- (v = 0)` (R104). -/
def nmi3Write (v : Byte) (s : State) : Ran Unit := .done () (s.setIe .cpu3 (nmiEnableOf v))

/-- `halt2 <- (v = 0); halt3 <- (v = 0)` (R105). -/
def haltWrite (v : Byte) (s : State) : Ran Unit := .done () ((s.setHalt2 (haltOf v)).setHalt3 (haltOf v))

/-- The watchdog: nothing at all (R107). -/
def wdogWrite (s : State) : Ran Unit := .done () s

/-- The 06XX stub reads as ready, with a diagnostic (R111). -/
def n06Read (a : Addr) (s : State) : Ran Byte := .done namco06Read (s.addDiag .namco06xx a namco06Read)

/-- A read outside the map (R116). -/
def unmappedRead (c : Cpu) (a : Addr) (s : State) : Ran Byte := raise (.unmappedAddress c a .read) s

/-- A write outside the map: "The value `v` is not part of the fault record" (R117). -/
def unmappedWrite (c : Cpu) (a : Addr) (s : State) : Ran Unit := raise (.unmappedAddress c a .write) s

/-- `DIP_RD` (R100). -/
def execDipRd (c : Cpu) (a : Addr) (s : State) : Host.Outcome State Fault Refusal :=
  issue (.dipRd c a) s fun s => (dipRead a s).map .byte

/-- `SND_WR` (R101). -/
def execSndWr (c : Cpu) (a : Addr) (v : Byte) (s : State) : Host.Outcome State Fault Refusal :=
  issue (.sndWr c a v) s fun s => (sinkWrite .sound a v s).map fun _ => .nothing

/-- `IRQ1_WR` (R102). -/
def execIrq1Wr (c : Cpu) (v : Byte) (s : State) : Host.Outcome State Fault Refusal :=
  issue (.irq1Wr c v) s fun s => (irq1Write v s).map fun _ => .nothing

/-- `IRQ2_WR` (R103). -/
def execIrq2Wr (c : Cpu) (v : Byte) (s : State) : Host.Outcome State Fault Refusal :=
  issue (.irq2Wr c v) s fun s => (irq2Write v s).map fun _ => .nothing

/-- `NMI3_WR` (R104). -/
def execNmi3Wr (c : Cpu) (v : Byte) (s : State) : Host.Outcome State Fault Refusal :=
  issue (.nmi3Wr c v) s fun s => (nmi3Write v s).map fun _ => .nothing

/-- `HALT_WR` (R105). -/
def execHaltWr (c : Cpu) (v : Byte) (s : State) : Host.Outcome State Fault Refusal :=
  issue (.haltWr c v) s fun s => (haltWrite v s).map fun _ => .nothing

/-- `LATCH_UNIMPL_WR` (R106). -/
def execLatchUnimplWr (c : Cpu) (a : Addr) (v : Byte) (s : State) : Host.Outcome State Fault Refusal :=
  issue (.latchUnimplWr c a v) s fun s => (sinkWrite .latch a v s).map fun _ => .nothing

/-- `WDOG_WR` (R107). -/
def execWdogWr (c : Cpu) (v : Byte) (s : State) : Host.Outcome State Fault Refusal :=
  issue (.wdogWr c v) s fun s => (wdogWrite s).map fun _ => .nothing

/-- `N06_RD` (R111). -/
def execN06Rd (c : Cpu) (a : Addr) (s : State) : Host.Outcome State Fault Refusal :=
  issue (.n06Rd c a) s fun s => (n06Read a s).map .byte

/-- `N06_WR` (R112). -/
def execN06Wr (c : Cpu) (a : Addr) (v : Byte) (s : State) : Host.Outcome State Fault Refusal :=
  issue (.n06Wr c a v) s fun s => (sinkWrite .namco06xx a v s).map fun _ => .nothing

/-- `STAR_WR` (R113). -/
def execStarWr (c : Cpu) (a : Addr) (v : Byte) (s : State) : Host.Outcome State Fault Refusal :=
  issue (.starWr c a v) s fun s => (sinkWrite .starfield a v s).map fun _ => .nothing

/-- `FLIP_WR` (R114). -/
def execFlipWr (c : Cpu) (v : Byte) (s : State) : Host.Outcome State Fault Refusal :=
  issue (.flipWr c v) s fun s => (sinkWrite .flipscreen 0xA007 v s).map fun _ => .nothing

/-- `UNMAPPED_RD` (R116): its effect is the fatal fault. -/
def execUnmappedRd (c : Cpu) (a : Addr) (s : State) : Host.Outcome State Fault Refusal :=
  issue (.unmappedRd c a) s fun s => (unmappedRead c a s).map .byte

/-- `UNMAPPED_WR` (R117): its effect is the fatal fault. -/
def execUnmappedWr (c : Cpu) (a : Addr) (v : Byte) (s : State) : Host.Outcome State Fault Refusal :=
  issue (.unmappedWr c a v) s fun s => (unmappedWrite c a s).map fun _ => .nothing

end Sys2Proof.Machine
end

