-- ==== Sys2Proof/Machine/BusRom.lean ====
section
/-!
DEFINITION. Bus operations on the code-ROM region 0x0000 to 0x3FFF (spec/40_bus_rom.md R90 to R97).
-/
namespace Sys2Proof.Machine

/-- `return rom_c[a]` (R90, R91, R93). -/
def romRead (c : Cpu) (a : Addr) (s : State) : Ran Byte := .done ((s.romOf c).read a.toNat) s

/-- CPU2's hole: "returns 0x00 with a diagnostic" (R92). -/
def rom2HoleRead (a : Addr) (s : State) : Ran Byte := .done 0x00 (s.addDiag .rom2 a 0x00)

/-- CPU3's hole: fatal (R94, D7). -/
def rom3HoleRead (a : Addr) (s : State) : Ran Byte := raise (.unmappedAddress .cpu3 a .read) s

/-- A write where CPU `c`'s ROM has a cell: under the override it stores, else it is `ReadOnlyWrite` (R95). -/
def romWrite (c : Cpu) (a : Addr) (v : Byte) (s : State) : Ran Unit :=
  if s.config.writableRom then .done () (s.setRom c ((s.romOf c).write a.toNat v))
  else raise (.readOnlyWrite c a v) s

/-- A write where it has none: always fatal, the protection check first (R97, R199, D8). -/
def romHoleWrite (c : Cpu) (a : Addr) (v : Byte) (s : State) : Ran Unit :=
  if s.config.writableRom then raise (.unmappedAddress c a .write) s else raise (.readOnlyWrite c a v) s

/-- `ROM1_RD` (R90). -/
def execRom1Rd (a : Addr) (s : State) : Host.Outcome State Fault Refusal :=
  issue (.rom1Rd a) s fun s => (romRead .cpu1 a s).map .byte

/-- `ROM2_RD` (R91). -/
def execRom2Rd (a : Addr) (s : State) : Host.Outcome State Fault Refusal :=
  issue (.rom2Rd a) s fun s => (romRead .cpu2 a s).map .byte

/-- `ROM2_RD_HOLE` (R92). -/
def execRom2RdHole (a : Addr) (s : State) : Host.Outcome State Fault Refusal :=
  issue (.rom2RdHole a) s fun s => (rom2HoleRead a s).map .byte

/-- `ROM3_RD` (R93). -/
def execRom3Rd (a : Addr) (s : State) : Host.Outcome State Fault Refusal :=
  issue (.rom3Rd a) s fun s => (romRead .cpu3 a s).map .byte

/-- `ROM3_RD_HOLE` (R94): its effect is the fatal fault. -/
def execRom3RdHole (a : Addr) (s : State) : Host.Outcome State Fault Refusal :=
  issue (.rom3RdHole a) s fun s => (rom3HoleRead a s).map .byte

/-- `ROM_WR` (R95). -/
def execRomWr (c : Cpu) (a : Addr) (v : Byte) (s : State) : Host.Outcome State Fault Refusal :=
  issue (.romWr c a v) s fun s => (romWrite c a v s).map fun _ => .nothing

/-- `ROM_WR_HOLE` (R97): its effect is a fatal fault. -/
def execRomWrHole (c : Cpu) (a : Addr) (v : Byte) (s : State) : Host.Outcome State Fault Refusal :=
  issue (.romWrHole c a v) s fun s => (romHoleWrite c a v s).map fun _ => .nothing

end Sys2Proof.Machine
end

