-- ==== Sys2Proof/Machine/BusRam.lean ====
section
/-!
DEFINITION. Bus operations on VRAM and shared RAM (spec/42_bus_ram.md R120 to R123, R126), the byte access that every
agent of the machine makes (spec/30_encoding.md R71, R76), and the 16-bit accesses (R124, R125).
-/
namespace Sys2Proof.Machine

/-- `return mem[a]` (R120). -/
def ramRead (a : Addr) (s : State) : Ran Byte := .done (s.mem.read a.toNat) s

/-- `mem[a] <- v` (R121). -/
def ramWrite (a : Addr) (v : Byte) (s : State) : Ran Unit := .done () (s.setMem (s.mem.write a.toNat v))

/-- `read8(c, a)` (R70, R71): the decoder selects the class, the class's rule answers. -/
def read8 (c : Cpu) (a : Addr) (s : State) : Ran Byte :=
  match readClass c a with
  | .rom1 => romRead .cpu1 a s
  | .rom2 => romRead .cpu2 a s
  | .rom2Hole => rom2HoleRead a s
  | .rom3 => romRead .cpu3 a s
  | .rom3Hole => rom3HoleRead a s
  | .dip => dipRead a s
  | .ram => ramRead a s
  | .n06 => n06Read a s
  | .unmapped => unmappedRead c a s

/-- `write8(c, a, v)` (R70, R71). -/
def write8 (c : Cpu) (a : Addr) (v : Byte) (s : State) : Ran Unit :=
  match writeClass c a with
  | .rom => romWrite c a v s
  | .romHole => romHoleWrite c a v s
  | .irq1 => irq1Write v s
  | .irq2 => irq2Write v s
  | .nmi3 => nmi3Write v s
  | .halt => haltWrite v s
  | .latchUnimpl => sinkWrite .latch a v s
  | .ram => ramWrite a v s
  | .snd => sinkWrite .sound a v s
  | .n06 => sinkWrite .namco06xx a v s
  | .star => sinkWrite .starfield a v s
  | .flip => sinkWrite .flipscreen a v s
  | .wdog => wdogWrite s
  | .unmapped => unmappedWrite c a s

/-- `read16(c, a)`: `lo` first, then `hi`, each decoded on its own (R124, D10). -/
def readPair (c : Cpu) (a : Addr) (s : State) : Ran Half :=
  (read8 c a s).bind fun lo s =>
    (read8 c (nextAddr a) s).map fun hi => joinBytes hi lo

/-- `write16(c, a, v)`: `lo` first, then `hi`; when `hi` faults, `lo` stays written (R125, D10). -/
def writePair (c : Cpu) (a : Addr) (v : Half) (s : State) : Ran Unit :=
  (write8 c a (loByte v) s).bind fun _ s => write8 c (nextAddr a) (hiByte v) s

/-- `RAM_RD` (R120). -/
def execRamRd (c : Cpu) (a : Addr) (s : State) : Host.Outcome State Fault Refusal :=
  issue (.ramRd c a) s fun s => (ramRead a s).map .byte

/-- `RAM_WR` (R121). -/
def execRamWr (c : Cpu) (a : Addr) (v : Byte) (s : State) : Host.Outcome State Fault Refusal :=
  issue (.ramWr c a v) s fun s => (ramWrite a v s).map fun _ => .nothing

/-- `read16` (R124). -/
def execRead16 (c : Cpu) (a : Addr) (s : State) : Host.Outcome State Fault Refusal :=
  issue (.read16 c a) s fun s => (readPair c a s).map .word

/-- `write16` (R125). -/
def execWrite16 (c : Cpu) (a : Addr) (v : Half) (s : State) : Host.Outcome State Fault Refusal :=
  issue (.write16 c a v) s fun s => (writePair c a v s).map fun _ => .nothing

end Sys2Proof.Machine
end

