-- ==== Sys2Proof/Machine/TileRenderer.lean ====
section
/-!
DEFINITION. The 8×8 tile renderer (spec/45_tile_renderer.md R145 to R151).
-/
namespace Sys2Proof.Machine

/-- `tile_rom[16t + byte]` (R145). -/
def tileByte (rom : Memory) (t : Byte) (byte : Fin 16) : Byte := rom.read (16 * t.toNat + byte.val)

/-- `entry(t, x, y) = 2 × plane1 + plane0` (R146). -/
def tileEntry (rom : Memory) (layout : TileLayout) (t : Byte) (x y : Fin 8) : Fin 4 :=
  let bits := layout[8 * y.val + x.val]
  let plane0 := (tileByte rom t bits.byte0).getLsbD bits.bit0.val
  let plane1 := (tileByte rom t bits.byte1).getLsbD bits.bit1.val
  Fin.ofNat 4 (2 * plane1.toNat + plane0.toNat)

/-- "Palette entry 0 is treated as opaque": alpha is 0xFF in every pixel (R149). -/
def opaquePixel (c : Color) : Pixel := { r := c.r, g := c.g, b := c.b, a := 0xFF }

/-- The pixel `(x, y)` of `render_tile(t, p)` (R148). -/
def tilePixel (rom : Memory) (layout : TileLayout) (palettes : PaletteTable) (t : Byte) (p : BitVec 6) (x y : Fin 8) :
    Pixel :=
  opaquePixel palettes[p.toFin][tileEntry rom layout t x y]

/-- `render_tile(t, p)` (R148), a pure function of the tile ROM, the layout and the palettes; it needs no cache
(R150, log entry 25). -/
def renderTile (rom : Memory) (layout : TileLayout) (palettes : PaletteTable) (t : Byte) (p : BitVec 6) : Tile :=
  Vector.ofFn fun y => Vector.ofFn fun x => tilePixel rom layout palettes t p x y

/-- `render_tile` with the machine's ROM, layout and palettes. -/
def State.renderTile (s : State) (t : Byte) (p : BitVec 6) : Tile :=
  Machine.renderTile s.config.tileRom s.config.tileLayout s.palettes t p

/-- `render_tile` (R148). -/
def execRenderTile (t : Byte) (p : BitVec 6) (s : State) : Host.Outcome State Fault Refusal :=
  issue (.renderTile t p) s fun s => .done (.tile (s.renderTile t p)) s

end Sys2Proof.Machine
end

