-- ==== Sys2Proof/Machine/Composer.lean ====
section
/-!
DEFINITION. The tilemap composer (spec/46_composer.md R155 to R166). While it runs, the frame buffer is held as the
function from `(x, y)` to the pixel, so that a blit is one test for each pixel.
-/
namespace Sys2Proof.Machine

/-- The frame buffer during a composition. -/
abbrev Canvas := Nat → Nat → Pixel

/-- The buffer as the composition finds it. -/
def canvasOf (f : Frame) : Canvas := fun x y => if h : x < 224 ∧ y < 288 then f[y][x] else ⟨0x00, 0x00, 0x00, 0x00⟩

/-- The buffer as the composition leaves it. -/
def frameOf (cv : Canvas) : Frame := Vector.ofFn fun y => Vector.ofFn fun x => cv x.val y.val

/-- One visit of the composer: a tile slot and its grid position (R155). -/
structure Visit where
  slot : Nat
  col : Nat
  row : Nat
deriving DecidableEq, Repr

/-- Region 1, the playfield: slots 0x040 to 0x3BF ascending, top to bottom then right to left (R158). -/
def playfieldVisits : List Visit :=
  (List.range 896).map fun n => { slot := 0x040 + n, col := 29 - n / 32, row := 2 + n % 32 }

/-- A strip: slot `first − k` at `(k, row)` for `k = 0..31` (R159 to R162). -/
def stripVisits (first row : Nat) : List Visit :=
  (List.range 32).map fun k => { slot := first - k, col := k, row := row }

/-- The visits of `compose_frame`, in the order of R163: the playfield and the four strips (R158 to R162). -/
def visits : List Visit :=
  playfieldVisits ++ stripVisits 0x3DF 0 ++ stripVisits 0x3FF 1 ++ stripVisits 0x01F 34 ++ stripVisits 0x03F 35

/-- Reading slot `i` through CPU1's view (R156; D29, log entry 17), and rendering its tile (R157). -/
def slotTile (s : State) (i : Nat) : Tile :=
  s.renderTile (tileOfCode (s.mem.read (codeAddr i))) (paletteOfAttr (s.mem.read (attrAddr i)))

/-- Pixel `(x, y)` lies in the 8×8 square of grid position `(col, row)`, and the column is one of the visible 2 to 29
(R155, R157, D3). -/
def covers (col row x y : Nat) : Bool :=
  decide (2 ≤ col ∧ col ≤ 29) && (decide (x / 8 = col - 2) && decide (y / 8 = row))

/-- The pixel of a tile under frame pixel `(x, y)` when the tile stands on the 8×8 grid. -/
def tilePixelUnder (t : Tile) (x y : Nat) : Pixel :=
  t[(⟨y % 8, Nat.mod_lt _ (by decide)⟩ : Fin 8)][(⟨x % 8, Nat.mod_lt _ (by decide)⟩ : Fin 8)]

/-- "Render and blit 8×8" (R157): where the visit's square covers `(x, y)`, the pixel of the slot's tile replaces
what the frame held; there is no blending. -/
def visitSlot (s : State) (cv : Canvas) (v : Visit) : Canvas := fun x y =>
  if covers v.col v.row x y then tilePixelUnder (slotTile s v.slot) x y else cv x y

/-- The frame that `compose_frame()` leaves (R163). -/
def composedFrame (s : State) : Frame := frameOf (visits.foldl (visitSlot s) (canvasOf s.frame))

/-- `compose_frame()`: "Writes: `frame`, every pixel. Changes no other state" (R163). -/
def compose (s : State) : State := s.setFrame (composedFrame s)

/-- `compose_frame` (R163). -/
def execComposeFrame (s : State) : Host.Outcome State Fault Refusal :=
  issue .composeFrame s fun s => .done .nothing (compose s)

end Sys2Proof.Machine
end

