-- ==== Sys2Proof/Machine/Palette.lean ====
section
/-!
DEFINITION. The colour-PROM and lookup-PROM decoders (spec/44_palette.md R135 to R141).
-/
namespace Sys2Proof.Machine

/-- `weight × b[i]` (R135). -/
def weigh (weight : Nat) (b : Byte) (i : Fin 8) : Nat := if b.getLsbD i.val then weight else 0

/-- `decode_color(b)` under the wiring `cb` (R135, R136). The sums fit `u8` (R64). -/
def decodeColor (cb : ColorBits) (b : Byte) : Color where
  r := BitVec.ofNat 8 (weigh weightLight b cb.rp0 + weigh weightMiddle b cb.rp1 + weigh weightHeavy b cb.rp2)
  g := BitVec.ofNat 8 (weigh weightLight b cb.gp0 + weigh weightMiddle b cb.gp1 + weigh weightHeavy b cb.gp2)
  b := BitVec.ofNat 8 (weigh weightBlueLight b cb.bp0 + weigh weightBlueHeavy b cb.bp1)

/-- `build_colors(color_prom)`: `colors[i] <- decode_color(color_prom[i])` (R137). -/
def buildColors (cb : ColorBits) (prom : Vector Byte 32) : ColorTable := Vector.ofFn fun i => decodeColor cb prom[i]

/-- The first byte of a lookup PROM that is no index of `colors`, with its own index, counted from `k` (R139). -/
def firstBadIndex (k : Nat) : List Byte → Option (Nat × Byte)
  | [] => none
  | b :: rest => if b.toNat < 32 then firstBadIndex (k + 1) rest else some (k, b)

/-- `colors[k]`; the builder asks for it only below 32 (R138). -/
def colorAt (colors : ColorTable) (k : Nat) : Color := if h : k < 32 then colors[k] else black

/-- `palettes[p][e] <- colors[lookup_prom[4 × p + e]]` for all `p`, `e` (R138). -/
def paletteTable (lookup : Vector Byte 256) (colors : ColorTable) : PaletteTable :=
  Vector.ofFn fun p => Vector.ofFn fun e => colorAt colors (lookup[4 * p.val + e.val]).toNat

/-- `build_palettes(lookup_prom, colors)`: the table, or the fault of the first byte that is 32 or more (R138, R139;
the PROM's length, R140, is in its type). -/
def buildPalettes (lookup : Vector Byte 256) (colors : ColorTable) : Except FaultKind PaletteTable :=
  match firstBadIndex 0 lookup.toList with
  | some (index, value) => .error (.tableBuildError .charLookup index value)
  | none => .ok (paletteTable lookup colors)

/-- `decode_color` (R135): a pure function of its operand. -/
def execDecodeColor (b : Byte) (s : State) : Host.Outcome State Fault Refusal :=
  issue (.decodeColor b) s fun s => .done (.color (decodeColor s.config.colorBits b)) s

/-- `build_colors` (R137): called by itself it answers the table; "Writes `colors` (at reset only)", which is
`buildTables` of Reset.lean (R141, log entry 15). -/
def execBuildColors (prom : Vector Byte 32) (s : State) : Host.Outcome State Fault Refusal :=
  issue (.buildColors prom) s fun s => .done (.colors (buildColors s.config.colorBits prom)) s

/-- `build_palettes` (R138, R139): called by itself it answers the table or raises `TableBuildError`; "Writes
`palettes` (at reset only)" (R141, log entries 14 and 15). -/
def execBuildPalettes (lookup : Vector Byte 256) (colors : ColorTable) (s : State) :
    Host.Outcome State Fault Refusal :=
  issue (.buildPalettes lookup colors) s fun s =>
    match buildPalettes lookup colors with
    | .ok t => .done (.palettes t) s
    | .error k => raise k s

end Sys2Proof.Machine
end

