-- ==== Sys2Proof/Machine/Ports.lean ====
section
/-!
DEFINITION. Device-port operations (spec/43_ports.md R130 to R132).
-/
namespace Sys2Proof.Machine

/-- `port0 <- v` (R130). -/
def port0Write (v : Byte) (s : State) : Ran Unit := .done () (s.setPort0 v)

/-- Every other port write is logged and dropped (R131). -/
def portOtherWrite (p v : Byte) (s : State) : Ran Unit := .done () (s.addDiag .port (portAddr p) v)

/-- Every port read is logged and returns 0x00 (R132). -/
def portRead (p : Byte) (s : State) : Ran Byte := .done 0x00 (s.addDiag .port (portAddr p) 0x00)

/-- `on_device_write(c, p, v)` (R70): "The only port implemented is CPU1 port 0 write" (R130). -/
def portWrite (c : Cpu) (p v : Byte) (s : State) : Ran Unit :=
  if c = .cpu1 ∧ p = 0x00 then port0Write v s else portOtherWrite p v s

/-- `PORT0_WR` (R130). -/
def execPort0Wr (v : Byte) (s : State) : Host.Outcome State Fault Refusal :=
  issue (.port0Wr v) s fun s => (port0Write v s).map fun _ => .nothing

/-- `PORT_WR_OTHER` (R131). -/
def execPortWrOther (c : Cpu) (p v : Byte) (s : State) : Host.Outcome State Fault Refusal :=
  issue (.portWrOther c p v) s fun s => (portOtherWrite p v s).map fun _ => .nothing

/-- `PORT_RD` (R132). -/
def execPortRd (c : Cpu) (p : Byte) (s : State) : Host.Outcome State Fault Refusal :=
  issue (.portRd c p) s fun s => (portRead p s).map .byte

end Sys2Proof.Machine
end

