-- ==== Sys2Proof/Machine/Reset.lean ====
section
/-!
DEFINITION. `reset()` (spec/70_reset_and_hazards.md R220, R221), the one return from a fatal fault
(spec/60_exceptions.md R196).
-/
namespace Sys2Proof.Machine

/-- The cells that R220 and R30 set, before the tables are built. The configuration stays (R20), and so do the
engines and the requests, which are outside the block (R220, N9; log entry 8). -/
def resetCells (s : State) : State :=
  { s with
    rom1 := s.config.rom1Image
    rom2 := s.config.rom2Image
    rom3 := s.config.rom3Image
    mem := []
    ie := ⟨false, false, false⟩
    halt2 := true
    halt3 := true
    port0 := 0x00
    csi := 0
    fault := none
    frame := blankFrame
    diag := []
    irqOut := []
    frameOut := [] }

/-- Table build at reset (R221): "If `build_palettes` refuses, reset does not complete and no loop iteration runs";
the fault is recorded and stays (R139, R198; log entry 14). -/
def buildTables (s : State) : Ran Unit :=
  let s := s.setColors (buildColors s.config.colorBits s.config.colorProm)
  match buildPalettes s.config.charLookup s.colors with
  | .ok t => .done () (s.setPalettes t)
  | .error k => raise k s

/-- `reset()` (R220): it runs in a faulted state too (R196, V10.4). -/
def execReset (s : State) : Host.Outcome State Fault Refusal :=
  ((buildTables (resetCells s)).map fun _ => Reply.nothing).outcome

end Sys2Proof.Machine
end

