-- ==== Sys2Proof/Machine/Engine.lean ====
section
/-!
DEFINITION. The contract with the stepping engines (spec/47_sequencer.md R170 to R172): one `step`, and accepting one
injection, as the transactions they make on the block.
-/
namespace Sys2Proof.Machine

/-- Run what the engine of CPU `c` does, transaction by transaction (R170). The first fatal fault ends it (R195). The
value is the cycles it reports and its next state. -/
def runProg (c : Cpu) : EngineProg → State → Ran (Nat × Nat)
  | .finish cycles code, s => .done (cycles, code) s
  | .deviceFault, s => raise .deviceFault s
  | .setIe b rest, s => runProg c rest (s.setIe c b)
  | .getIe k, s => runProg c (k (s.ie.get c)) s
  | .read8 a k, s => (read8 c a s).bind fun v s => runProg c (k v) s
  | .write8 a v rest, s => (write8 c a v s).bind fun _ s => runProg c rest s
  | .read16 a k, s => (readPair c a s).bind fun v s => runProg c (k v) s
  | .write16 a v rest, s => (writePair c a v s).bind fun _ s => runProg c rest s
  | .portRead p k, s => (portRead p s).bind fun v s => runProg c (k v) s
  | .portWrite p v rest, s => (portWrite c p v s).bind fun _ s => runProg c rest s

/-- One act of a behaviour given as data, before the rest of it. -/
def actProg (act : EngineAct) (rest : EngineProg) : EngineProg :=
  match act with
  | .setIe b => .setIe b rest
  | .read8 a => .read8 a fun _ => rest
  | .write8 a v => .write8 a v rest
  | .read16 a => .read16 a fun _ => rest
  | .write16 a v => .write16 a v rest
  | .portRead p => .portRead p fun _ => rest
  | .portWrite p v => .portWrite p v rest

/-- A behaviour given as data: its acts in order, then its end (log entry 7). -/
def turnProg (t : Turn) : EngineProg :=
  t.acts.foldr actProg (if t.deviceFault then .deviceFault else .finish t.cycles t.code)

/-- What engine `c` does in its next `step`, and the engine less what was given for it (log entry 7). -/
def nextStep (c : Cpu) (e : Engine) : EngineProg × Engine :=
  match e.steps with
  | t :: rest => (turnProg t, { e with steps := rest })
  | [] => (Config.engineStep c e.code, e)

/-- What engine `c` does when it accepts an injection, and the engine less what was given for it (log entry 7). -/
def nextAccept (c : Cpu) (inj : Injection) (e : Engine) : EngineProg × Engine :=
  match e.accepts with
  | t :: rest => (turnProg t, { e with accepts := rest })
  | [] => (Config.engineAccept c inj e.code, e)

/-- Run a behaviour of engine `c` and leave the engine in the state it ends in; the value is the cycles. Where a fault
cuts the behaviour short the engine stays `e`, with the number it had before: DESIGN CHOICE (log entry 29), the spec
gives its state no value then. -/
def runEngine (c : Cpu) (p : EngineProg) (e : Engine) (s : State) : Ran Nat :=
  (runProg c p (s.setEngine c e)).bind fun v s => .done v.1 (s.setEngine c { e with code := v.2 })

/-- `step()` of engine `c` (R170). -/
def stepEngine (c : Cpu) (s : State) : Ran Nat :=
  let next := nextStep c (s.engines.get c)
  runEngine c next.1 next.2 s

/-- Inject into engine `c` (R171): "recorded as `emit Maskable(v)` or `emit Nmi` on `irq_out[c]`"; the engine's
transactions take place at that point, and a fault of one of them ends the service (log entry 21). -/
def inject (c : Cpu) (inj : Injection) (s : State) : Ran Unit :=
  let next := nextAccept c inj (s.engines.get c)
  (runEngine c next.1 next.2 (s.addIrq c inj)).map fun _ => ()

end Sys2Proof.Machine
end

