-- ==== Sys2Proof/Machine/Sequencer.lean ====
section
/-!
DEFINITION. The loop, the halt and release sequencer and the VBLANK service (spec/47_sequencer.md R173 to R185).
-/
namespace Sys2Proof.Machine

/-- Service of CPU1 (R178): `port0` is read at delivery (R232). -/
def serviceCpu1 (s : State) : Ran Unit :=
  if s.ie.c1 then inject .cpu1 (.maskable s.port0) (s.setIe .cpu1 false) else .done () s

/-- Service of CPU2 (R179). -/
def serviceCpu2 (s : State) : Ran Unit :=
  if s.ie.c2 then inject .cpu2 (.maskable cpu2Vector) ((s.setHalt2 false).setIe .cpu2 false) else .done () s

/-- Service of CPU3 (R180). -/
def serviceCpu3 (s : State) : Ran Unit :=
  if s.ie.c3 then inject .cpu3 .nmi ((s.setHalt3 false).setIe .cpu3 false) else .done () s

/-- The video path: compose a frame and hand it over (R166, R177); the audio path does nothing (D27). -/
def videoPath (s : State) : State :=
  let s := compose s
  s.addFrame s.frame

/-- The VBLANK service, in the order of R176; at its end `csi <- 0` (R181). -/
def vblank (s : State) : Ran Unit :=
  (serviceCpu1 (videoPath s)).bind fun _ s =>
    (serviceCpu2 s).bind fun _ s =>
      (serviceCpu3 s).bind fun _ s => .done () (s.setCsi 0)

/-- `handle_interrupts(c1)`: the check, then the service at most once (R175). -/
def checkVblank (c1 : Nat) (s : State) : Ran Unit :=
  let s := s.setCsi (s.csi + c1)
  if vblankDue s.csi then vblank s else .done () s

/-- "if not halt_c: cpu_c.step()": the flag is tested when its line is reached, the cycles are discarded (R174,
R184). -/
def stepUnlessHalted (c : Cpu) (s : State) : Ran Unit :=
  if s.halted c then .done () s else (stepEngine c s).map fun _ => ()

/-- `loop_iter()` (R174): CPU1, then CPU2 and CPU3 unless Halted, then the check on CPU1's cycles. -/
def iterate (s : State) : Ran Unit :=
  (stepEngine .cpu1 s).bind fun c1 s =>
    (stepUnlessHalted .cpu2 s).bind fun _ s =>
      (stepUnlessHalted .cpu3 s).bind fun _ s => checkVblank c1 s

/-- `loop_iter` (R174). -/
def execLoopIter (s : State) : Host.Outcome State Fault Refusal :=
  issue .loopIter s fun s => (iterate s).map fun _ => .nothing

/-- `handle_interrupts` (R175, R176). -/
def execHandleInterrupts (c1 : Nat) (s : State) : Host.Outcome State Fault Refusal :=
  issue (.handleInterrupts c1) s fun s => (checkVblank c1 s).map fun _ => .nothing

/-- `vblank_service` (R176). -/
def execVblankService (s : State) : Host.Outcome State Fault Refusal :=
  issue .vblankService s fun s => (vblank s).map fun _ => .nothing

end Sys2Proof.Machine
end

