-- ==== Sys2Proof/Machine/Dispatch.lean ====
section
/-!
DEFINITION. The meaning of every operation (spec/30_encoding.md R70): one arm for each constructor of `Instr`.
-/
namespace Sys2Proof.Machine

/-- What operation `i` does in state `s`. -/
def exec (i : Instr) (s : State) : Host.Outcome State Fault Refusal :=
  match i with
  -- code ROM: spec/40_bus_rom.md
  | .rom1Rd a => Sys2Proof.Machine.execRom1Rd a s
  | .rom2Rd a => Sys2Proof.Machine.execRom2Rd a s
  | .rom2RdHole a => Sys2Proof.Machine.execRom2RdHole a s
  | .rom3Rd a => Sys2Proof.Machine.execRom3Rd a s
  | .rom3RdHole a => Sys2Proof.Machine.execRom3RdHole a s
  | .romWr c a v => Sys2Proof.Machine.execRomWr c a v s
  | .romWrHole c a v => Sys2Proof.Machine.execRomWrHole c a v s
  -- MMIO and unmapped: spec/41_bus_mmio.md
  | .dipRd c a => Sys2Proof.Machine.execDipRd c a s
  | .sndWr c a v => Sys2Proof.Machine.execSndWr c a v s
  | .irq1Wr c v => Sys2Proof.Machine.execIrq1Wr c v s
  | .irq2Wr c v => Sys2Proof.Machine.execIrq2Wr c v s
  | .nmi3Wr c v => Sys2Proof.Machine.execNmi3Wr c v s
  | .haltWr c v => Sys2Proof.Machine.execHaltWr c v s
  | .latchUnimplWr c a v => Sys2Proof.Machine.execLatchUnimplWr c a v s
  | .wdogWr c v => Sys2Proof.Machine.execWdogWr c v s
  | .n06Rd c a => Sys2Proof.Machine.execN06Rd c a s
  | .n06Wr c a v => Sys2Proof.Machine.execN06Wr c a v s
  | .starWr c a v => Sys2Proof.Machine.execStarWr c a v s
  | .flipWr c v => Sys2Proof.Machine.execFlipWr c v s
  -- RAM: spec/42_bus_ram.md
  | .ramRd c a => Sys2Proof.Machine.execRamRd c a s
  | .ramWr c a v => Sys2Proof.Machine.execRamWr c a v s
  | .unmappedRd c a => Sys2Proof.Machine.execUnmappedRd c a s
  | .unmappedWr c a v => Sys2Proof.Machine.execUnmappedWr c a v s
  -- ports: spec/43_ports.md
  | .port0Wr v => Sys2Proof.Machine.execPort0Wr v s
  | .portWrOther c p v => Sys2Proof.Machine.execPortWrOther c p v s
  | .portRd c p => Sys2Proof.Machine.execPortRd c p s
  -- 16-bit accesses: spec/42_bus_ram.md
  | .read16 c a => Sys2Proof.Machine.execRead16 c a s
  | .write16 c a v => Sys2Proof.Machine.execWrite16 c a v s
  -- tables: spec/44_palette.md
  | .decodeColor b => Sys2Proof.Machine.execDecodeColor b s
  | .buildColors prom => Sys2Proof.Machine.execBuildColors prom s
  | .buildPalettes lookup colors => Sys2Proof.Machine.execBuildPalettes lookup colors s
  -- video: spec/45_tile_renderer.md, spec/46_composer.md
  | .renderTile t p => Sys2Proof.Machine.execRenderTile t p s
  | .composeFrame => Sys2Proof.Machine.execComposeFrame s
  -- sequencer: spec/47_sequencer.md
  | .loopIter => Sys2Proof.Machine.execLoopIter s
  | .handleInterrupts c1 => Sys2Proof.Machine.execHandleInterrupts c1 s
  | .vblankService => Sys2Proof.Machine.execVblankService s
  -- reset: spec/70_reset_and_hazards.md
  | .reset => Sys2Proof.Machine.execReset s

end Sys2Proof.Machine
end

