-- ==== Sys2Proof/Machine/Step.lean ====
section
/-!
DEFINITION. One step of the machine. The block fetches no instructions (spec/10_state.md R14): its sequencer repeats
`loop_iter` (spec/47_sequencer.md R174), and an operation that an issuer outside the loop has presented is taken
first (spec/30_encoding.md R70; log entry 2). The host's pause, debugger, cancel and load are left out (log entry 27).
-/
namespace Sys2Proof.Machine

/-- One step: the operation presented next, decoded; with none presented, one iteration of the loop. -/
def step (s : State) : Host.Outcome State Fault Refusal :=
  match s.requests with
  | [] => exec .loopIter s
  | r :: rest =>
    match decode r with
    | .ok i => exec i (s.setRequests rest)
    | .error e => .refused (.undecodable e)

/-- The state with the operation of a table word presented next. -/
def State.withFetchWord (s : State) (nbits w : Nat) : State := s.setRequests (requestOfWord nbits w :: s.requests)

end Sys2Proof.Machine
end

