-- ==== Sys2Proof/Safety.lean ====
section
/-!
DEFINITION. What the claims about the machine speak of: a configuration the spec allows, a state whose tables are
built, the invariant that every step keeps, and a safe run.
-/
namespace Sys2Proof

/-- The 128 (byte, bit) places of a layout, each as `8 * byte + bit` (R146). -/
def TileLayout.places (l : TileLayout) : List Nat :=
  l.toList.flatMap fun p => [8 * p.byte0.val + p.bit0.val, 8 * p.byte1.val + p.bit1.val]

/-- `TILE_LAYOUT` "must be a bijection from the 128 (pixel, plane) pairs onto the 128 (byte, bit) pairs" (R146):
128 places below 128, no two of them equal. -/
def TileLayout.wf (l : TileLayout) : Bool := decide l.places.Nodup

/-- `COLOR_BITS` is "a bijection from the eight weights to the eight bit positions" (D4). -/
def ColorBits.wf (cb : ColorBits) : Bool := decide cb.positions.Nodup

/-- The size of CPU `c`'s code ROM (R3, R10). -/
def romSize : Cpu → Nat
  | .cpu1 => 16384
  | .cpu2 => 4096
  | .cpu3 => 4096

/-- A canonical array of `n` bytes. -/
def Memory.image (n : Nat) (m : Memory) : Bool := m.wf && m.within fun a => decide (a < n)

/-- A configuration the spec allows: images of the sizes of R3, DIP bytes with bits 7:2 zero (R20), bijective
parameters (R136, R146). -/
def Config.wf (cfg : Config) : Bool :=
  cfg.rom1Image.image 16384 && cfg.rom2Image.image 4096 && cfg.rom3Image.image 4096 && cfg.tileRom.image 4096 &&
  cfg.dip.toList.all (fun b => decide (b.toNat < 4)) && cfg.colorBits.wf && cfg.tileLayout.wf

namespace Machine

/-- Every lookup byte is an index of `colors` (R139). -/
def LookupOk (cfg : Config) : Prop := ∀ i : Fin 256, (cfg.charLookup[i]).toNat < 32

/-- The tables are what R137 and R138 build from the PROMs. -/
def TablesBuilt (s : State) : Prop :=
  LookupOk s.config ∧ s.colors = buildColors s.config.colorBits s.config.colorProm ∧
  s.palettes = paletteTable s.config.charLookup s.colors

/-- The invariant: what holds between any two operations. -/
structure Inv (s : State) : Prop where
  /-- The configuration is one the spec allows. -/
  config : s.config.wf = true
  /-- The shared array is in canonical form. -/
  mem : s.mem.wf = true
  /-- "the other 60 416 cells stay zero for ever" (R12). -/
  windows : s.mem.within (fun a => inRamWindow (BitVec.ofNat 16 a) && decide (a < 65536)) = true
  /-- Each code ROM is a canonical array of its size (R10). -/
  roms : ∀ c, (s.romOf c).image (romSize c) = true
  /-- Without the override the code ROMs hold the images supplied (R52(a), R95). -/
  romProtected : s.config.writableRom = false →
    s.rom1 = s.config.rom1Image ∧ s.rom2 = s.config.rom2Image ∧ s.rom3 = s.config.rom3Image
  /-- "between two operations it always satisfies `csi < 51200`" (R18); a run that a fault has ended has no next
  operation. -/
  csi : s.fault = none → s.csi < 51200
  /-- The tables are built, unless a fault has ended the run (R21, R141, R139). -/
  tables : s.fault = none → TablesBuilt s

/-- `n` steps from `s`, ending at the first that answers no next state. -/
def runFor : Nat → State → Host.Outcome State Fault Refusal
  | 0, s => .next s
  | n + 1, s =>
    match step s with
    | .next t => runFor n t
    | .fault r => .fault r
    | .refused r => .refused r

/-- "a claim that a program runs correctly must show `fault` stays empty" (R195). -/
def Safe (s : State) : Prop := s.fault = none

/-- `n` steps from `s` are safe: each answers a next state, and that state is safe. -/
def SafeFor : Nat → State → Prop
  | 0, s => Safe s
  | n + 1, s => Safe s ∧ ∃ t, step s = .next t ∧ SafeFor n t

end Machine
end Sys2Proof
end

