-- ==== Sys2Proof/Certificates/Slice0/Obligations.lean ====
section
/-!
DEFINITION. The statements for the provers. Each docstring names the rules of spec/ that the statement formalises; a
clause that rests on a choice of the model names the log entry. A next state is written out as an update of the state
before, so that the statement says what changes and that nothing else does.
-/
open Sys2Proof Sys2Proof.Machine

namespace Sys2Proof.Spec

/-- The machine can run: no fault is recorded (R19). -/
abbrev Ready (s : State) : Prop := s.fault = none

/-- The operation ends in the fatal fault `k` and changes nothing else (R195). -/
def faulted (s : State) (k : FaultKind) : State := (s.setFault (some k)).setReply .nothing

/-- The operation returns nothing. -/
def silent (s : State) : State := s.setReply .nothing

/-- A step of an engine, or its acceptance of an injection, in which it makes no transaction (the "no transaction" of
the tables of PG2). -/
def quiet (cycles code : Nat) : Turn := { acts := [], deviceFault := false, cycles := cycles, code := code }

/-- A step in which the engine makes one byte write. -/
def oneWrite (a : Addr) (v : Byte) (cycles code : Nat) : Turn :=
  { acts := [.write8 a v], deviceFault := false, cycles := cycles, code := code }

/-- The engine after a turn given as data. -/
def afterTurn (e : Engine) (t : Turn) (rest : List Turn) : Engine := { e with code := t.code, steps := rest }

/-- `slot(c, r)` of R164, for visible column `c` and row `r`. -/
def slotAt (c r : Nat) : Nat :=
  if r = 0 then 0x3DD - c
  else if r = 1 then 0x3FD - c
  else if r ≤ 33 then 0x040 + 32 * (27 - c) + (r - 2)
  else if r = 34 then 0x01D - c
  else 0x03D - c

/-- The sixteen slots that influence no pixel (R164). -/
def hiddenSlots : List Nat :=
  [0x000, 0x001, 0x01E, 0x01F, 0x020, 0x021, 0x03E, 0x03F, 0x3C0, 0x3C1, 0x3DE, 0x3DF, 0x3E0, 0x3E1, 0x3FE, 0x3FF]

/-- The byte reads (R70). -/
def isRead : Instr → Prop
  | .rom1Rd _ | .rom2Rd _ | .rom2RdHole _ | .rom3Rd _ | .rom3RdHole _ | .dipRd _ _ | .n06Rd _ _ | .ramRd _ _ => True
  | .unmappedRd _ _ | .portRd _ _ | .read16 _ _ => True
  | _ => False

/-- The key of `read8(c, a)`: `K = c × 0x10000 + a` (R71). -/
def readKey (c : Cpu) (a : Nat) : Nat :=
  match c with
  | .cpu1 => 0x10000 + a
  | .cpu2 => 0x20000 + a
  | .cpu3 => 0x30000 + a

/-- The key of `write8(c, a, _)`: `K = 0x40000 + c × 0x10000 + a` (R71). -/
def writeKey (c : Cpu) (a : Nat) : Nat := 0x40000 + readKey c a

/-- The request is decoded as `i`, and `i` leaves `t`. -/
def runsTo (r : Request) (i : Instr) (s t : State) : Prop := decode r = .ok i ∧ exec i s = .next t

/-- The operations inside which an engine makes transactions of its own (R170, R171), and `reset()`. -/
def runsEngines : Instr → Prop
  | .loopIter | .handleInterrupts _ | .vblankService | .reset => True
  | _ => False

/-- The operations, of those that step no engine, that can raise a fatal fault (R190, R124, R125). -/
def canFault : Instr → Prop
  | .rom3RdHole _ | .romWr _ _ _ | .romWrHole _ _ _ | .unmappedRd _ _ | .unmappedWr _ _ _ | .read16 _ _ => True
  | .write16 _ _ _ | .buildPalettes _ _ => True
  | _ => False

/-- The operations, of those that step no engine, that can log a diagnostic (R190, R193, R124, R125). -/
def canLog : Instr → Prop
  | .rom2RdHole _ | .sndWr _ _ _ | .latchUnimplWr _ _ _ | .n06Rd _ _ | .n06Wr _ _ _ | .starWr _ _ _ => True
  | .flipWr _ _ | .portWrOther _ _ _ | .portRd _ _ | .read16 _ _ | .write16 _ _ _ => True
  | _ => False

end Sys2Proof.Spec

open Sys2Proof.Spec

/-! ### Encoding -/

/-- R70 to R77, R82: whatever operation of the block is presented, with every operand at every value its class
admits, the decoder reads back that operation. -/
def Obligations.DecodeOfEncodeIsTheOperation : Prop :=
  ∀ i : Instr, i.wf = true → decode (encode i) = .ok i

/-- R76, R48: the decoder answers only operations of the block. -/
def Obligations.DecoderAnswersOnlyOperations : Prop :=
  ∀ (r : Request) (i : Instr), decode r = .ok i → i.wf = true

/-- R48, R76: every decode class is exactly the range the map lists for it, on the read side and on the write side;
outside the code-ROM region (R49) for every CPU, inside it CPU by CPU. -/
def Obligations.DecodeMapIsTheListedPartition : Prop :=
  (∀ a : Addr,
    (decodeRead .cpu1 a = .rom1Rd a ↔ a.toNat ≤ 0x3FFF) ∧
    (decodeRead .cpu2 a = .rom2Rd a ↔ a.toNat ≤ 0x0FFF) ∧
    (decodeRead .cpu2 a = .rom2RdHole a ↔ 0x1000 ≤ a.toNat ∧ a.toNat ≤ 0x3FFF) ∧
    (decodeRead .cpu3 a = .rom3Rd a ↔ a.toNat ≤ 0x0FFF) ∧
    (decodeRead .cpu3 a = .rom3RdHole a ↔ 0x1000 ≤ a.toNat ∧ a.toNat ≤ 0x3FFF)) ∧
  ∀ (c : Cpu) (a : Addr) (v : Byte),
    (decodeRead c a = .dipRd c a ↔ 0x6800 ≤ a.toNat ∧ a.toNat ≤ 0x6807) ∧
    (decodeRead c a = .n06Rd c a ↔ 0x7000 ≤ a.toNat ∧ a.toNat ≤ 0x7100) ∧
    (decodeRead c a = .ramRd c a ↔ inRamWindow a = true) ∧
    (decodeRead c a = .unmappedRd c a ↔ inUnmappedRead a = true) ∧
    (decodeWrite c a v = .romWr c a v ↔ inRomArray c a = true) ∧
    (decodeWrite c a v = .romWrHole c a v ↔ inRomHole c a = true) ∧
    (decodeWrite c a v = .sndWr c a v ↔ 0x6800 ≤ a.toNat ∧ a.toNat ≤ 0x681F) ∧
    (decodeWrite c a v = .irq1Wr c v ↔ a = 0x6820) ∧
    (decodeWrite c a v = .irq2Wr c v ↔ a = 0x6821) ∧
    (decodeWrite c a v = .nmi3Wr c v ↔ a = 0x6822) ∧
    (decodeWrite c a v = .haltWr c v ↔ a = 0x6823) ∧
    (decodeWrite c a v = .latchUnimplWr c a v ↔ 0x6824 ≤ a.toNat ∧ a.toNat ≤ 0x6827) ∧
    (decodeWrite c a v = .wdogWr c v ↔ a = 0x6830) ∧
    (decodeWrite c a v = .n06Wr c a v ↔ 0x7000 ≤ a.toNat ∧ a.toNat ≤ 0x7100) ∧
    (decodeWrite c a v = .ramWr c a v ↔ inRamWindow a = true) ∧
    (decodeWrite c a v = .starWr c a v ↔ 0xA000 ≤ a.toNat ∧ a.toNat ≤ 0xA005) ∧
    (decodeWrite c a v = .flipWr c v ↔ a = 0xA007) ∧
    (decodeWrite c a v = .unmappedWr c a v ↔ inUnmappedWrite a = true)

/-- R77: a key of either format with `cpu = 0b00` is refused by name, with or without a data byte, and it is not an
`UnmappedAddress`. That a machine presented with it takes no step is the model's choice (log entry 2). -/
def Obligations.ReservedCpuFieldIsRefused : Prop :=
  (∀ (key : Nat) (d : Option Byte), key < 0x80000 → key / 0x10000 % 4 = 0 →
    decode (.bus8 key d) = .error .reservedCpu ∧
    ∀ (s : State) (rest : List Request), step (s.setRequests (.bus8 key d :: rest)) =
      .refused (.undecodable .reservedCpu)) ∧
  (∀ (key : Nat) (d : Option Byte), key < 0x800 → key / 0x100 % 4 = 0 →
    decode (.port key d) = .error .reservedCpu ∧
    ∀ (s : State) (rest : List Request), step (s.setRequests (.port key d :: rest)) =
      .refused (.undecodable .reservedCpu))

/-- Keys written out by hand from R71 and R73 (and listed in the spec's V1) decode to the operations they stand
for. -/
def Obligations.WrittenKeysDecode : Prop :=
  decode (.bus8 0x10000 none) = .ok (.rom1Rd 0x0000) ∧
  decode (.bus8 0x20FFF none) = .ok (.rom2Rd 0x0FFF) ∧
  decode (.bus8 0x38000 none) = .ok (.ramRd .cpu3 0x8000) ∧
  decode (.bus8 0x56823 (some 0x01)) = .ok (.haltWr .cpu1 0x01) ∧
  decode (.bus8 0x66821 (some 0x01)) = .ok (.irq2Wr .cpu2 0x01) ∧
  decode (.bus8 0x7FFFF (some 0x5A)) = .ok (.unmappedWr .cpu3 0xFFFF 0x5A) ∧
  decode (.port 0x500 (some 0x34)) = .ok (.port0Wr 0x34) ∧
  decode (.port 0x7FF (some 0x77)) = .ok (.portWrOther .cpu3 0xFF 0x77) ∧
  decode (.port 0x200 none) = .ok (.portRd .cpu2 0x00)

/-! ### The step -/

/-- The model's step (log entry 2): with an operation presented, the step is that operation, less the request; with
none presented the sequencer runs `loop_iter` (R174). -/
def Obligations.StepRunsTheDecodedOperation : Prop :=
  (∀ (s : State) (r : Request) (rest : List Request) (i : Instr), s.requests = r :: rest → decode r = .ok i →
    step s = exec i (s.setRequests rest)) ∧
  ∀ s : State, s.requests = [] → step s = exec .loopIter s

/-- R19, R195, R196: once a fault is recorded no operation but `reset()` runs; none clears the record. -/
def Obligations.NoOperationRunsAfterAFault : Prop :=
  ∀ (s : State) (k : FaultKind), s.fault = some k →
    (∀ i : Instr, i ≠ .reset → exec i s = .fault (.stopped k)) ∧
    (s.requests = [] → step s = .fault (.stopped k))

/-! ### Code ROM -/

/-- R90, R91, R93: each CPU reads its own code ROM; nothing is written. -/
def Obligations.CodeRomReadsAnswerTheCpusOwnRom : Prop :=
  ∀ (s : State) (a : Addr), Ready s →
    (a.toNat ≤ 0x3FFF →
      runsTo (.bus8 (0x10000 + a.toNat) none) (.rom1Rd a) s (s.setReply (.byte (s.rom1.read a.toNat)))) ∧
    (a.toNat ≤ 0x0FFF →
      runsTo (.bus8 (0x20000 + a.toNat) none) (.rom2Rd a) s (s.setReply (.byte (s.rom2.read a.toNat)))) ∧
    (a.toNat ≤ 0x0FFF →
      runsTo (.bus8 (0x30000 + a.toNat) none) (.rom3Rd a) s (s.setReply (.byte (s.rom3.read a.toNat))))

/-- R92: CPU2's hole reads as 0x00 with one `rom2` event, whatever `rom2` holds. -/
def Obligations.Cpu2HoleReadsZeroAndLogs : Prop :=
  ∀ (s : State) (a : Addr), Ready s → 0x1000 ≤ a.toNat → a.toNat ≤ 0x3FFF →
    runsTo (.bus8 (0x20000 + a.toNat) none) (.rom2RdHole a) s ((s.addDiag .rom2 a 0x00).setReply (.byte 0x00))

/-- R94: CPU3's hole is fatal. -/
def Obligations.Cpu3HoleReadIsFatal : Prop :=
  ∀ (s : State) (a : Addr), Ready s → 0x1000 ≤ a.toNat → a.toNat ≤ 0x3FFF →
    runsTo (.bus8 (0x30000 + a.toNat) none) (.rom3RdHole a) s (faulted s (.unmappedAddress .cpu3 a .read))

/-- R95: where the CPU's ROM has a cell, a write stores that byte of that ROM under the override and is
`ReadOnlyWrite` without it. -/
def Obligations.RomWriteNeedsTheOverride : Prop :=
  ∀ (s : State) (c : Cpu) (a : Addr) (v : Byte), Ready s → inRomArray c a = true →
    (s.config.writableRom = true → runsTo (.bus8 (writeKey c a.toNat) (some v)) (.romWr c a v) s
      (silent (s.setRom c ((s.romOf c).write a.toNat v)))) ∧
    (s.config.writableRom = false → runsTo (.bus8 (writeKey c a.toNat) (some v)) (.romWr c a v) s
      (faulted s (.readOnlyWrite c a v)))

/-- R97, R199: where it has none, a write is always fatal, and without the override the protection check comes
first. -/
def Obligations.RomHoleWriteIsFatal : Prop :=
  ∀ (s : State) (c : Cpu) (a : Addr) (v : Byte), Ready s → c ≠ .cpu1 → 0x1000 ≤ a.toNat → a.toNat ≤ 0x3FFF →
    runsTo (.bus8 (writeKey c a.toNat) (some v)) (.romWrHole c a v) s
      (faulted s (if s.config.writableRom then .unmappedAddress c a .write else .readOnlyWrite c a v))

/-- R95, R96, R49, R62: under the override a byte written reads back, every other byte of that ROM reads as before, and
no other cell changes: not the two other CPUs' ROMs, not the shared array, nothing else. -/
def Obligations.RomWriteReadsBackForThatCpuOnly : Prop :=
  ∀ (s : State) (c : Cpu) (a : Addr) (v : Byte), Ready s → inRomArray c a = true → s.config.writableRom = true →
    (s.romOf c).wf = true →
    ∃ t m, t = silent (s.setRom c m) ∧ exec (.romWr c a v) s = .next t ∧
      exec (decodeRead c a) t = .next (t.setReply (.byte v)) ∧
      (∀ b, b ≠ a.toNat → (t.romOf c).read b = (s.romOf c).read b) ∧
      (∀ d, d ≠ c → t.romOf d = s.romOf d) ∧ t.mem = s.mem

/-! ### MMIO -/

/-- R100: a read of 0x6800 + k answers `dip[k]`; by default those are zero but for 0x02 at 0x6804. -/
def Obligations.DipReadAnswersTheConfiguredByte : Prop :=
  (∀ (s : State) (c : Cpu) (k : Fin 8), Ready s →
    runsTo (.bus8 (readKey c (0x6800 + k.val)) none) (.dipRd c (BitVec.ofNat 16 (0x6800 + k.val))) s
      (s.setReply (.byte s.config.dip[k]))) ∧
  ∀ k : Fin 8, State.reset.config.dip[k] = if k = 4 then 0x02 else 0x00

/-- R101, R106, R107, R112, R113, R114: the sink writes log one event each, the watchdog none, and no cell
changes. -/
def Obligations.SinkWritesOnlyLog : Prop :=
  ∀ (s : State) (c : Cpu) (a : Addr) (v : Byte), Ready s →
    (0x6800 ≤ a.toNat ∧ a.toNat ≤ 0x681F →
      runsTo (.bus8 (writeKey c a.toNat) (some v)) (.sndWr c a v) s (silent (s.addDiag .sound a v))) ∧
    (0x6824 ≤ a.toNat ∧ a.toNat ≤ 0x6827 →
      runsTo (.bus8 (writeKey c a.toNat) (some v)) (.latchUnimplWr c a v) s (silent (s.addDiag .latch a v))) ∧
    runsTo (.bus8 (writeKey c 0x6830) (some v)) (.wdogWr c v) s (silent s) ∧
    (0x7000 ≤ a.toNat ∧ a.toNat ≤ 0x7100 →
      runsTo (.bus8 (writeKey c a.toNat) (some v)) (.n06Wr c a v) s (silent (s.addDiag .namco06xx a v))) ∧
    (0xA000 ≤ a.toNat ∧ a.toNat ≤ 0xA005 →
      runsTo (.bus8 (writeKey c a.toNat) (some v)) (.starWr c a v) s (silent (s.addDiag .starfield a v))) ∧
    runsTo (.bus8 (writeKey c 0xA007) (some v)) (.flipWr c v) s (silent (s.addDiag .flipscreen 0xA007 v))

/-- R102, R103, R104: the three enable latches store a test of the whole byte, the third inverted. -/
def Obligations.EnableLatchesStoreTheTest : Prop :=
  ∀ (s : State) (c : Cpu) (v : Byte), Ready s →
    runsTo (.bus8 (writeKey c 0x6820) (some v)) (.irq1Wr c v) s (silent (s.setIe .cpu1 (decide (v ≠ 0x00)))) ∧
    runsTo (.bus8 (writeKey c 0x6821) (some v)) (.irq2Wr c v) s (silent (s.setIe .cpu2 (decide (v ≠ 0x00)))) ∧
    runsTo (.bus8 (writeKey c 0x6822) (some v)) (.nmi3Wr c v) s (silent (s.setIe .cpu3 (decide (v = 0x00))))

/-- R105: the halt latch sets both flags to `v = 0`, whoever writes it, and touches no engine. -/
def Obligations.HaltLatchSetsBothFlags : Prop :=
  ∀ (s : State) (c : Cpu) (v : Byte), Ready s →
    runsTo (.bus8 (writeKey c 0x6823) (some v)) (.haltWr c v) s
      (silent { s with halt2 := decide (v = 0x00), halt3 := decide (v = 0x00) })

/-- R111: the 06XX window reads as 0x10 with one event, for every CPU and at all its addresses. -/
def Obligations.Namco06ReadsReady : Prop :=
  ∀ (s : State) (c : Cpu) (a : Addr), Ready s → 0x7000 ≤ a.toNat → a.toNat ≤ 0x7100 →
    runsTo (.bus8 (readKey c a.toNat) none) (.n06Rd c a) s ((s.addDiag .namco06xx a 0x10).setReply (.byte 0x10))

/-- R116, R117: an access outside the map is fatal; no cell is written and a write's byte is not recorded. -/
def Obligations.UnmappedAccessIsFatal : Prop :=
  ∀ (s : State) (c : Cpu) (a : Addr) (v : Byte), Ready s →
    (inUnmappedRead a = true → runsTo (.bus8 (readKey c a.toNat) none) (.unmappedRd c a) s
      (faulted s (.unmappedAddress c a .read))) ∧
    (inUnmappedWrite a = true → runsTo (.bus8 (writeKey c a.toNat) (some v)) (.unmappedWr c a v) s
      (faulted s (.unmappedAddress c a .write)))

/-! ### RAM -/

/-- R120: a read in a window answers `mem[a]`, whoever reads; after reset that is 0x00. -/
def Obligations.RamReadAnswersTheSharedCell : Prop :=
  ∀ (s : State) (c : Cpu) (a : Addr), Ready s → inRamWindow a = true →
    runsTo (.bus8 (readKey c a.toNat) none) (.ramRd c a) s (s.setReply (.byte (s.mem.read a.toNat))) ∧
    exec (.ramRd c a) State.reset = .next (State.reset.setReply (.byte 0x00))

/-- R121, R126, R50: a byte written in a window reads back for all three CPUs, whoever wrote it; every other address
reads as before; the array alone changes. -/
def Obligations.RamWriteIsSeenByEveryCpu : Prop :=
  ∀ (s : State) (c : Cpu) (a : Addr) (v : Byte), Ready s → s.mem.wf = true → inRamWindow a = true →
    ∃ m, runsTo (.bus8 (writeKey c a.toNat) (some v)) (.ramWr c a v) s (silent (s.setMem m)) ∧
      (∀ d, exec (.ramRd d a) (silent (s.setMem m)) = .next ((s.setMem m).setReply (.byte v))) ∧
      (∀ b, b ≠ a.toNat → m.read b = s.mem.read b)

/-- R71, R170: the byte access an engine makes is the operation the decoder names, done in the same state. -/
def Obligations.ByteAccessIsTheDecodedOperation : Prop :=
  ∀ (s : State) (c : Cpu) (a : Addr) (v : Byte), Ready s →
    exec (decodeRead c a) s = ((read8 c a s).map Reply.byte).outcome ∧
    exec (decodeWrite c a v) s = ((write8 c a v s).map fun _ => Reply.nothing).outcome

/-- R49, R207: outside the code-ROM region the CPUs' maps are identical: a byte read and a byte write do the same
whoever makes them, and what is fatal for one is fatal for all; only the fault record, which names the CPU, can
differ. -/
def Obligations.MapsAgreeOutsideTheRomRegion : Prop :=
  ∀ (s : State) (c d : Cpu) (a : Addr) (v : Byte), Ready s → 0x4000 ≤ a.toNat →
    (∃ t u, exec (decodeRead c a) s = .next t ∧ exec (decodeRead d a) s = .next u ∧
      u = { t with fault := u.fault } ∧ (t.fault = none ↔ u.fault = none)) ∧
    ∃ t u, exec (decodeWrite c a v) s = .next t ∧ exec (decodeWrite d a v) s = .next u ∧
      u = { t with fault := u.fault } ∧ (t.fault = none ↔ u.fault = none)

/-- R124: `read16` is `read8(c, a)`, then `read8(c, a+1 mod 65536)`, low byte first; a fault of the first wins and the
second is then not made. -/
def Obligations.Read16IsTwoByteReads : Prop :=
  ∀ (s : State) (c : Cpu) (a : Addr), Ready s →
    (∀ t, read8 c a s = .raised t → exec (.read16 c a) s = .next (silent t)) ∧
    (∀ lo t u, read8 c a s = .done lo t → read8 c (BitVec.ofNat 16 (a.toNat + 1)) t = .raised u →
      exec (.read16 c a) s = .next (silent u)) ∧
    (∀ lo t hi u, read8 c a s = .done lo t → read8 c (BitVec.ofNat 16 (a.toNat + 1)) t = .done hi u →
      exec (.read16 c a) s = .next (u.setReply (.word (BitVec.ofNat 16 (hi.toNat * 256 + lo.toNat)))))

/-- R124 on two RAM bytes: it completes with `hi × 256 + lo`, and nothing changes. -/
def Obligations.Read16InRamAnswersLittleEndian : Prop :=
  ∀ (s : State) (c : Cpu) (a : Addr), Ready s → inRamWindow a = true → inRamWindow (a + 1) = true →
    exec (.read16 c a) s = .next (s.setReply (.word
      (BitVec.ofNat 16 ((s.mem.read (a.toNat + 1)).toNat * 256 + (s.mem.read a.toNat).toNat))))

/-- R125 on two RAM bytes: `v[7:0]` at `a`, `v[15:8]` at `a + 1`, every other address as before. -/
def Obligations.Write16InRamIsLittleEndian : Prop :=
  ∀ (s : State) (c : Cpu) (a : Addr) (v : Half), Ready s → s.mem.wf = true →
    inRamWindow a = true → inRamWindow (a + 1) = true →
    ∃ m, exec (.write16 c a v) s = .next (silent (s.setMem m)) ∧
      (m.read a.toNat).toNat = v.toNat % 256 ∧ (m.read (a.toNat + 1)).toNat = v.toNat / 256 ∧
      ∀ b, b ≠ a.toNat → b ≠ a.toNat + 1 → m.read b = s.mem.read b

/-- R125: `write16` is `write8(c, a, v[7:0])`, then `write8(c, a+1 mod 65536, v[15:8])`; a fault of the first prevents
the second, and a fault of the second leaves the effect of the first in place. -/
def Obligations.Write16IsTwoByteWrites : Prop :=
  ∀ (s : State) (c : Cpu) (a : Addr) (v : Half) (lo hi : Byte), Ready s → v.toNat = hi.toNat * 256 + lo.toNat →
    (∀ t, write8 c a lo s = .raised t → exec (.write16 c a v) s = .next (silent t)) ∧
    (∀ t u, write8 c a lo s = .done () t → write8 c (BitVec.ofNat 16 (a.toNat + 1)) hi t = .raised u →
      exec (.write16 c a v) s = .next (silent u)) ∧
    (∀ t u, write8 c a lo s = .done () t → write8 c (BitVec.ofNat 16 (a.toNat + 1)) hi t = .done () u →
      exec (.write16 c a v) s = .next (silent u))

/-- R42, R125, R195: off the end of a window the `lo` byte stands and the fault names the `hi` byte's address. -/
def Obligations.Write16OffTheEndKeepsTheLowByte : Prop :=
  ∀ (s : State) (c : Cpu) (a : Addr) (v : Half), Ready s → a ∈ [0x8BFF#16, 0x93FF#16, 0x9BFF#16] →
    exec (.write16 c a v) s = .next (faulted (s.setMem (s.mem.write a.toNat (BitVec.ofNat 8 v.toNat)))
      (.unmappedAddress c (a + 1) .write))

/-! ### Ports -/

/-- R130, R131, R132: CPU1's port 0 latches the byte; every other port write logs one event and changes nothing; every
port read, CPU1's port 0 included, answers 0x00 and logs one event, whatever was latched. -/
def Obligations.OnlyCpu1PortZeroLatches : Prop :=
  ∀ (s : State) (c : Cpu) (p v : Byte), Ready s →
    runsTo (.port 0x500 (some v)) (.port0Wr v) s (silent (s.setPort0 v)) ∧
    (¬(c = .cpu1 ∧ p = 0x00) → runsTo (.port (portKey true c p) (some v)) (.portWrOther c p v) s
      (silent (s.addDiag .port (BitVec.ofNat 16 p.toNat) v))) ∧
    runsTo (.port (portKey false c p) none) (.portRd c p) s
      ((s.addDiag .port (BitVec.ofNat 16 p.toNat) 0x00).setReply (.byte 0x00))

/-! ### What an operation leaves alone -/

/-- R46: a read changes nothing but the diagnostic stream, the `fault` cell and the model's reply. -/
def Obligations.ReadsChangeNoCell : Prop :=
  ∀ (i : Instr) (s t : State), isRead i → exec i s = .next t →
    ∃ d f r, t = { s with diag := s.diag ++ d, fault := f, reply := r }

/-- R47: a read that does not fault answers the same when it is repeated. -/
def Obligations.ReadsRepeat : Prop :=
  ∀ (i : Instr) (s t : State), isRead i → exec i s = .next t → t.fault = none →
    ∃ u, exec i t = .next u ∧ u.reply = t.reply ∧ u.fault = none

/-- R47: writing the same byte twice leaves the state of writing it once, but for what it logs. -/
def Obligations.WritesAreIdempotent : Prop :=
  ∀ (c : Cpu) (a : Addr) (v : Byte) (s t : State), s.mem.wf = true → (∀ d, (s.romOf d).wf = true) →
    exec (decodeWrite c a v) s = .next t → t.fault = none →
    ∃ d, exec (decodeWrite c a v) t = .next { t with diag := d }

/-- R31, R17, R95, R121, R125, R141, R190, R193: which operations, of those that step no engine, can change each cell of
the block, and the bytes of the shared array and of the code ROMs each can change; they change no engine and no
request. -/
def Obligations.EachCellHasItsWriters : Prop :=
  ∀ (i : Instr) (s t : State), ¬runsEngines i → exec i s = .next t →
    (t.port0 ≠ s.port0 → ∃ v, i = .port0Wr v) ∧
    (t.halt2 ≠ s.halt2 ∨ t.halt3 ≠ s.halt3 →
      (∃ c v, i = .haltWr c v) ∨ ∃ c a v, i = .write16 c a v ∧ (a = 0x6822 ∨ a = 0x6823)) ∧
    (t.ie.c1 ≠ s.ie.c1 → (∃ c v, i = .irq1Wr c v) ∨ ∃ c a v, i = .write16 c a v ∧ (a = 0x681F ∨ a = 0x6820)) ∧
    (t.ie.c2 ≠ s.ie.c2 → (∃ c v, i = .irq2Wr c v) ∨ ∃ c a v, i = .write16 c a v ∧ (a = 0x6820 ∨ a = 0x6821)) ∧
    (t.ie.c3 ≠ s.ie.c3 → (∃ c v, i = .nmi3Wr c v) ∨ ∃ c a v, i = .write16 c a v ∧ (a = 0x6821 ∨ a = 0x6822)) ∧
    (t.frame ≠ s.frame → i = .composeFrame) ∧
    (s.mem.wf = true → ∀ b, t.mem.read b ≠ s.mem.read b →
      (∃ c a v, i = .ramWr c a v ∧ b = a.toNat) ∨
      ∃ c a v, i = .write16 c a v ∧ (b = a.toNat ∨ b = (a + 1).toNat)) ∧
    (∀ d, (s.romOf d).wf = true → ∀ b, (t.romOf d).read b ≠ (s.romOf d).read b →
      (∃ a v, i = .romWr d a v ∧ b = a.toNat) ∨
      ∃ a v, i = .write16 d a v ∧ (b = a.toNat ∨ b = (a + 1).toNat)) ∧
    (t.fault ≠ s.fault → canFault i) ∧
    (t.diag ≠ s.diag → canLog i) ∧
    t.config = s.config ∧ t.colors = s.colors ∧ t.palettes = s.palettes ∧ t.csi = s.csi ∧ t.irqOut = s.irqOut ∧
    t.frameOut = s.frameOut ∧ t.engines = s.engines ∧ t.requests = s.requests

/-- R20, R141, R196: no operation changes the configuration; none but `reset()` changes the tables. -/
def Obligations.ConfigurationAndTablesAreFixed : Prop :=
  ∀ (i : Instr) (s t : State), exec i s = .next t →
    t.config = s.config ∧ (i ≠ .reset → t.colors = s.colors ∧ t.palettes = s.palettes)

/-- R52(a), R95, R97: without the override no operation but `reset()` changes a code ROM, whatever the engines do. -/
def Obligations.RomsAreProtected : Prop :=
  ∀ (i : Instr) (s t : State), s.config.writableRom = false → i ≠ .reset → exec i s = .next t →
    ∀ c, t.romOf c = s.romOf c

/-- R23: the output streams are append-only, whatever the engines do. -/
def Obligations.StreamsOnlyGrow : Prop :=
  ∀ (i : Instr) (s t : State), i ≠ .reset → exec i s = .next t →
    s.diag <+: t.diag ∧ s.irqOut <+: t.irqOut ∧ s.frameOut <+: t.frameOut

/-! ### Tables -/

/-- R135: a component of the colour is the sum of the weights of its bits that are 1, with no overflow. -/
def Obligations.DecodeColorAddsTheWeights : Prop :=
  ∀ (s : State) (b : Byte), Ready s →
    let w := s.config.colorBits
    let bit (i : Fin 8) : Nat := (b.getLsbD i.val).toNat
    ∃ col : Color, exec (.decodeColor b) s = .next (s.setReply (.color col)) ∧
      col.r.toNat = 0x21 * bit w.rp0 + 0x47 * bit w.rp1 + 0x97 * bit w.rp2 ∧
      col.g.toNat = 0x21 * bit w.gp0 + 0x47 * bit w.gp1 + 0x97 * bit w.gp2 ∧
      col.b.toNat = 0x51 * bit w.bp0 + 0xAE * bit w.bp1

/-- V6.1, R64: under every wiring the spec allows, different bytes decode to different colours. -/
def Obligations.DecodeColorIsInjective : Prop :=
  ∀ (s : State) (b d : Byte), Ready s → s.config.colorBits.wf = true →
    exec (.decodeColor b) s = exec (.decodeColor d) s → b = d

/-- R137, R141: entry `i` of the colour table is the colour of PROM byte `i`; called by itself the builder answers the
table and changes no cell (log entry 15). -/
def Obligations.BuildColorsDecodesEachByte : Prop :=
  ∀ (s : State) (prom : Vector Byte 32), Ready s →
    ∃ t : ColorTable, exec (.buildColors prom) s = .next (s.setReply (.colors t)) ∧
      ∀ i : Fin 32, exec (.decodeColor prom[i]) s = .next (s.setReply (.color t[i]))

/-- R138: entry `e` of palette `p` is the colour that lookup byte `4p + e` numbers (log entry 15). -/
def Obligations.BuildPalettesIndexesTheColors : Prop :=
  ∀ (s : State) (lookup : Vector Byte 256) (colors : ColorTable), Ready s →
    (∀ i : Fin 256, (lookup[i]).toNat < 32) →
    ∃ t : PaletteTable, exec (.buildPalettes lookup colors) s = .next (s.setReply (.palettes t)) ∧
      ∀ (p : Fin 64) (e : Fin 4) (k : Fin 32), (lookup[4 * p.val + e.val]).toNat = k.val → t[p][e] = colors[k]

/-- R139, R198: a lookup byte of 32 or more refuses the build; the first one is named. The record in the `fault` cell
is the model's (log entry 14). -/
def Obligations.BuildPalettesRefusesTheFirstBadByte : Prop :=
  ∀ (s : State) (lookup : Vector Byte 256) (colors : ColorTable) (i : Fin 256), Ready s →
    32 ≤ (lookup[i]).toNat → (∀ j : Fin 256, j < i → (lookup[j]).toNat < 32) →
    exec (.buildPalettes lookup colors) s = .next (faulted s (.tableBuildError .charLookup i.val lookup[i]))

/-! ### Tiles and frames -/

/-- R145, R146, R148, R149: every pixel of a rendered tile is the palette's colour for the two bits the layout names,
opaque; nothing is written. -/
def Obligations.RenderTilePaintsEachPixel : Prop :=
  ∀ (s : State) (t : Byte) (p : BitVec 6), Ready s →
    ∃ out : Tile, exec (.renderTile t p) s = .next (s.setReply (.tile out)) ∧
      ∀ (x y : Fin 8) (e : Fin 4),
        (let at_ := s.config.tileLayout[8 * y.val + x.val]
         let plane0 := (s.config.tileRom.read (16 * t.toNat + at_.byte0.val)).getLsbD at_.bit0.val
         let plane1 := (s.config.tileRom.read (16 * t.toNat + at_.byte1.val)).getLsbD at_.bit1.val
         e.val = 2 * plane1.toNat + plane0.toNat) →
        out[y][x] = { r := s.palettes[p.toFin][e].r, g := s.palettes[p.toFin][e].g, b := s.palettes[p.toFin][e].b,
                      a := 0xFF }

/-- R148, R147: a tile of sixteen equal bytes 0x00 or 0xFF is one colour under every layout; of 0x0F or 0xF0 under the
default layout, which is PRESUMED (log entry 10). -/
def Obligations.UniformTilesAreOneColor : Prop :=
  ∀ (s : State) (t : Byte) (p : BitVec 6) (b : Byte) (e : Fin 4), Ready s →
    (∀ k, k < 16 → s.config.tileRom.read (16 * t.toNat + k) = b) →
    (b = 0x00 ∧ e = 0) ∨ (b = 0xFF ∧ e = 3) ∨ (s.config.tileLayout = TileLayout.default ∧
      ((b = 0x0F ∧ e = 1) ∨ (b = 0xF0 ∧ e = 2))) →
    ∃ out : Tile, exec (.renderTile t p) s = .next (s.setReply (.tile out)) ∧
      ∀ x y : Fin 8, out[y][x] = opaquePixel s.palettes[p.toFin][e]

/-- R156, D29: the composer's two reads of a slot are the byte reads CPU1 would make; they change nothing, and the
slot's tile is what `render_tile` answers for the masked bytes. The model reads the cells directly (log entry 17). -/
def Obligations.SlotIsReadThroughCpu1sView : Prop :=
  ∀ (s : State) (i : Nat), Ready s → i < 0x400 →
    ∃ code attr : Byte,
      exec (decodeRead .cpu1 (BitVec.ofNat 16 (0x8000 + i))) s = .next (s.setReply (.byte code)) ∧
      exec (decodeRead .cpu1 (BitVec.ofNat 16 (0x8400 + i))) s = .next (s.setReply (.byte attr)) ∧
      exec (.renderTile (code &&& 0x7F) (BitVec.ofNat 6 (attr &&& 0x3F).toNat)) s =
        .next (s.setReply (.tile (slotTile s i)))

/-- R163, R164: `compose_frame()` completes, writes the frame alone, and every pixel is that of the tile which
`render_tile` answers for the slot of the closed form. -/
def Obligations.ComposedFrameIsTheClosedForm : Prop :=
  ∀ s : State, Ready s →
    ∃ f : Frame, exec .composeFrame s = .next (silent (s.setFrame f)) ∧
      ∀ (x : Fin 224) (y : Fin 288), ∃ tile : Tile,
        (let slot := slotAt (x.val / 8) (y.val / 8)
         exec (.renderTile (s.mem.read (0x8000 + slot) &&& 0x7F)
           (BitVec.ofNat 6 (s.mem.read (0x8400 + slot) &&& 0x3F).toNat)) s = .next (s.setReply (.tile tile))) ∧
        f[y][x] = tile[y.val % 8][x.val % 8]

/-- R155, R164: two machines that agree on the tile ROM, the layout, the palettes and, in every slot but the sixteen
hidden ones, on the seven code bits and the six attribute bits, compose the same frame: the previous frame, the
unused bits, the hidden slots and every other cell show nowhere. -/
def Obligations.FrameKeepsNothingElse : Prop :=
  ∀ s t : State, Ready s → Ready t →
    s.config.tileRom = t.config.tileRom → s.config.tileLayout = t.config.tileLayout → s.palettes = t.palettes →
    (∀ i, i < 0x400 → i ∉ hiddenSlots →
      s.mem.read (0x8000 + i) &&& 0x7F = t.mem.read (0x8000 + i) &&& 0x7F ∧
      s.mem.read (0x8400 + i) &&& 0x3F = t.mem.read (0x8400 + i) &&& 0x3F) →
    ∃ f : Frame, exec .composeFrame s = .next (silent (s.setFrame f)) ∧
      exec .composeFrame t = .next (silent (t.setFrame f))

/-! ### The loop -/

/-- R174, R184, R173: an iteration in which no engine makes a transaction steps CPU1 and those of CPU2 and CPU3 that
are not Halted, and counts CPU1's cycles alone. The engines' turns are given as data (log entry 7). -/
def Obligations.IterationStepsTheRunningCpus : Prop :=
  ∀ (s : State) (k1 k2 k3 d1 d2 d3 : Nat) (r1 r2 r3 : List Turn), Ready s →
    s.engines.c1.steps = quiet k1 d1 :: r1 → s.engines.c2.steps = quiet k2 d2 :: r2 →
    s.engines.c3.steps = quiet k3 d3 :: r3 → s.csi + k1 < 51200 →
    exec .loopIter s = .next (silent { s with
      csi := s.csi + k1
      engines :=
        { c1 := afterTurn s.engines.c1 (quiet k1 d1) r1
          c2 := if s.halt2 then s.engines.c2 else afterTurn s.engines.c2 (quiet k2 d2) r2
          c3 := if s.halt3 then s.engines.c3 else afterTurn s.engines.c3 (quiet k3 d3) r3 } })

/-- R174: the halt flags are tested when their line is reached: CPU1's write to 0x6823 decides whether CPU2 and CPU3
step in the same iteration, and CPU2's decides whether CPU3 does (log entry 7). -/
def Obligations.HaltLatchActsInTheSameIteration : Prop :=
  ∀ (s : State) (v : Byte) (k1 k2 k3 d1 d2 d3 : Nat) (r1 r2 r3 : List Turn), Ready s → s.csi + k1 < 51200 →
    s.engines.c3.steps = quiet k3 d3 :: r3 →
    (s.engines.c1.steps = oneWrite 0x6823 v k1 d1 :: r1 → s.engines.c2.steps = quiet k2 d2 :: r2 →
      exec .loopIter s = .next (silent { s with
        csi := s.csi + k1
        halt2 := decide (v = 0x00)
        halt3 := decide (v = 0x00)
        engines :=
          { c1 := afterTurn s.engines.c1 (oneWrite 0x6823 v k1 d1) r1
            c2 := if v = 0x00 then s.engines.c2 else afterTurn s.engines.c2 (quiet k2 d2) r2
            c3 := if v = 0x00 then s.engines.c3 else afterTurn s.engines.c3 (quiet k3 d3) r3 } })) ∧
    (s.halt2 = false → s.engines.c1.steps = quiet k1 d1 :: r1 → s.engines.c2.steps = oneWrite 0x6823 v k2 d2 :: r2 →
      exec .loopIter s = .next (silent { s with
        csi := s.csi + k1
        halt2 := decide (v = 0x00)
        halt3 := decide (v = 0x00)
        engines :=
          { c1 := afterTurn s.engines.c1 (quiet k1 d1) r1
            c2 := afterTurn s.engines.c2 (oneWrite 0x6823 v k2 d2) r2
            c3 := if v = 0x00 then s.engines.c3 else afterTurn s.engines.c3 (quiet k3 d3) r3 } }))

/-- R175: below the threshold the check only counts; at or past it the service runs, once. -/
def Obligations.VblankCheckComparesWithTheThreshold : Prop :=
  ∀ (s : State) (c1 : Nat), Ready s →
    (s.csi + c1 < 51200 → exec (.handleInterrupts c1) s = .next (silent (s.setCsi (s.csi + c1)))) ∧
    (51200 ≤ s.csi + c1 → exec (.handleInterrupts c1) s = exec .vblankService (s.setCsi (s.csi + c1)))

/-- R176 to R182, R201, R231: the service completes: it emits the frame that `compose_frame()` makes of the state it
finds, injects into each CPU whose enable is set, in the order 1, 2, 3, clears the enables, releases the CPUs it
interrupts and zeroes `csi`; nothing else changes. The engines accept without a transaction (log entry 7). -/
def Obligations.VblankServiceServesTheThreeCpus : Prop :=
  ∀ s : State, Ready s →
    (∀ c, s.ie.get c = true → ∃ k d rest, (s.engines.get c).accepts = quiet k d :: rest) →
    ∃ (f : Frame) (e : PerCpu Engine), exec .composeFrame s = .next (silent (s.setFrame f)) ∧
      exec .vblankService s = .next (silent { s with
        frame := f
        frameOut := s.frameOut ++ [f]
        irqOut := s.irqOut ++ (if s.ie.c1 then [(Cpu.cpu1, Injection.maskable s.port0)] else []) ++
          (if s.ie.c2 then [(Cpu.cpu2, Injection.maskable 0x00)] else []) ++
          (if s.ie.c3 then [(Cpu.cpu3, Injection.nmi)] else [])
        ie := ⟨false, false, false⟩
        halt2 := s.halt2 && !s.ie.c2
        halt3 := s.halt3 && !s.ie.c3
        csi := 0
        engines := e }) ∧
      ∀ c, s.ie.get c = false → e.get c = s.engines.get c

/-- R176, R177, R181, for every engine: a service that no fault of an engine cut short has handed over exactly one
frame, the one composed from the state it found, and leaves `csi` at zero. -/
def Obligations.EveryVblankHandsOverOneFrame : Prop :=
  ∀ s t : State, exec .vblankService s = .next t → t.fault = none →
    t.csi = 0 ∧ ∃ f, t.frame = f ∧ t.frameOut = s.frameOut ++ [f] ∧
      exec .composeFrame s = .next (silent (s.setFrame f))

/-- R175, R58: for every engine, an iteration runs the service at most once; when it ran it to its end `csi` is zero,
and when it did not run it no interrupt was injected. -/
def Obligations.AtMostOneServicePerIteration : Prop :=
  ∀ s t : State, exec .loopIter s = .next t → t.fault = none →
    t.csi < 51200 ∧
    ((t.frameOut = s.frameOut ∧ t.irqOut = s.irqOut ∧ s.csi ≤ t.csi) ∨
     (t.csi = 0 ∧ ∃ f, t.frameOut = s.frameOut ++ [f]))

/-- R183: with CPU1's steps all of `k ≥ 1` cycles and no transaction, from a zero count, a frame is handed over in
every `ceil(51200 / k)`-th iteration and the count restarts at zero; with steps of 0 cycles, never. CPU2 and CPU3 stay
Halted and no enable is set (log entry 7 for the engine given as data). -/
def Obligations.VblankPeriod : Prop :=
  ∀ (s : State) (k d m : Nat), Ready s → s.requests = [] → s.csi = 0 → s.halt2 = true → s.halt3 = true →
    s.ie = ⟨false, false, false⟩ → s.engines.c1.steps = List.replicate m (quiet k d) →
    ∃ t : State, runFor m s = .next t ∧
      (1 ≤ k → t.frameOut.length = s.frameOut.length + m / ((51200 + k - 1) / k) ∧
        t.csi = m % ((51200 + k - 1) / k) * k) ∧
      (k = 0 → t.frameOut = s.frameOut ∧ t.csi = 0) ∧
      t.irqOut = s.irqOut ∧ t.fault = none ∧ t.mem = s.mem

/-! ### Faults in the loop -/

/-- R174, R171, R195, D28: a fault that an engine's transaction or the engine itself raises in its step ends the
iteration: the state is the one the fault left, the later CPUs do not step, the cycles are not counted, no service
runs. A fault while an engine accepts an injection ends the service and the iteration there: the frame and the
injections made stand, the later CPUs are not served and `csi` is not zeroed (log entry 21). -/
def Obligations.FaultEndsTheIteration : Prop :=
  ∀ s u : State, Ready s →
    (stepEngine .cpu1 s = .raised u →
      exec .loopIter s = .next (silent u) ∧ u.fault ≠ none ∧ u.csi = s.csi ∧ u.irqOut = s.irqOut ∧
      u.frameOut = s.frameOut ∧ u.engines.c2 = s.engines.c2 ∧ u.engines.c3 = s.engines.c3) ∧
    (∀ k t, stepEngine .cpu1 s = .done k t → t.halt2 = false → stepEngine .cpu2 t = .raised u →
      exec .loopIter s = .next (silent u) ∧ u.fault ≠ none ∧ u.csi = s.csi ∧ u.irqOut = s.irqOut ∧
      u.frameOut = s.frameOut ∧ u.engines.c3 = s.engines.c3) ∧
    (∀ k t w, stepEngine .cpu1 s = .done k t → stepUnlessHalted .cpu2 t = .done () w → w.halt3 = false →
      stepEngine .cpu3 w = .raised u →
      exec .loopIter s = .next (silent u) ∧ u.fault ≠ none ∧ u.csi = s.csi ∧ u.irqOut = s.irqOut ∧
      u.frameOut = s.frameOut) ∧
    (∀ k t w x, stepEngine .cpu1 s = .done k t → stepUnlessHalted .cpu2 t = .done () w →
      stepUnlessHalted .cpu3 w = .done () x → checkVblank k x = .raised u →
      exec .loopIter s = .next (silent u) ∧ u.fault ≠ none ∧ u.csi = s.csi + k) ∧
    (serviceCpu1 (videoPath s) = .raised u →
      exec .vblankService s = .next (silent u) ∧ u.fault ≠ none ∧ u.csi = s.csi ∧
      u.frameOut = s.frameOut ++ [u.frame] ∧ u.irqOut = s.irqOut ++ [(.cpu1, .maskable s.port0)] ∧
      u.engines.c2 = s.engines.c2 ∧ u.engines.c3 = s.engines.c3) ∧
    (∀ t, serviceCpu1 (videoPath s) = .done () t → serviceCpu2 t = .raised u →
      exec .vblankService s = .next (silent u) ∧ u.fault ≠ none ∧ u.csi = s.csi ∧
      u.frameOut = s.frameOut ++ [u.frame] ∧ u.irqOut = t.irqOut ++ [(.cpu2, .maskable 0x00)] ∧
      u.engines.c3 = s.engines.c3) ∧
    (∀ t w, serviceCpu1 (videoPath s) = .done () t → serviceCpu2 t = .done () w → serviceCpu3 w = .raised u →
      exec .vblankService s = .next (silent u) ∧ u.fault ≠ none ∧ u.csi = s.csi ∧
      u.frameOut = s.frameOut ++ [u.frame] ∧ u.irqOut = w.irqOut ++ [(.cpu3, .nmi)])

/-- R125, R195, R194 (PG4): when CPU1's step writes a RAM byte and then 16 bits off the end of shared RAM #1, both
bytes stand, the fault names 0x8C00, and CPU2, CPU3 and the count are as before; a `DeviceFault` of the engine leaves
the earlier write the same way. CPU1's step is given as data (log entry 7), and that its engine keeps the number it had
is the model's choice (log entry 29). -/
def Obligations.EarlierTransactionsStandAfterAFault : Prop :=
  ∀ (s : State) (a : Addr) (v : Byte) (w : Half) (k d : Nat) (rest : List Turn), Ready s → inRamWindow a = true →
    (s.engines.c1.steps = ⟨[.write8 a v, .write16 0x8BFF w], false, k, d⟩ :: rest →
      exec .loopIter s = .next (faulted
        ((s.setEngine .cpu1 { s.engines.c1 with steps := rest }).setMem
          ((s.mem.write a.toNat v).write 0x8BFF (BitVec.ofNat 8 w.toNat)))
        (.unmappedAddress .cpu1 0x8C00 .write))) ∧
    (s.engines.c1.steps = ⟨[.write8 a v], true, k, d⟩ :: rest →
      exec .loopIter s = .next (faulted
        ((s.setEngine .cpu1 { s.engines.c1 with steps := rest }).setMem (s.mem.write a.toNat v)) .deviceFault))

/-! ### Reset and the invariant -/

/-- R220, R221, R30, R196: `reset()` completes in every state, a faulted one included, whose lookup PROM builds: every
cell of R220 has the value of R30, the ROMs are the images supplied and the tables are the builders'. -/
def Obligations.ResetRestoresEveryCell : Prop :=
  ∀ s : State, LookupOk s.config →
    ∃ t, exec .reset s = .next t ∧
      (∀ a, t.mem.read a = 0x00) ∧ t.ie = ⟨false, false, false⟩ ∧ t.halt2 = true ∧ t.halt3 = true ∧
      t.port0 = 0x00 ∧ t.csi = 0 ∧ t.fault = none ∧ t.diag = [] ∧ t.irqOut = [] ∧ t.frameOut = [] ∧
      t.rom1 = s.config.rom1Image ∧ t.rom2 = s.config.rom2Image ∧ t.rom3 = s.config.rom3Image ∧
      exec (.buildColors s.config.colorProm) t = .next (t.setReply (.colors t.colors)) ∧
      exec (.buildPalettes s.config.charLookup t.colors) t = .next (t.setReply (.palettes t.palettes)) ∧
      t.config = s.config

/-- R139, R198, R221: with a lookup byte of 32 or more `reset()` does not complete: the first such byte is recorded
and no loop iteration runs. The record in the `fault` cell is the model's (log entry 14). -/
def Obligations.ResetStopsAtABadLookupProm : Prop :=
  ∀ (s : State) (i : Fin 256), 32 ≤ (s.config.charLookup[i]).toNat →
    (∀ j : Fin 256, j < i → (s.config.charLookup[j]).toNat < 32) →
    ∃ t, exec .reset s = .next t ∧
      t.fault = some (.tableBuildError .charLookup i.val s.config.charLookup[i]) ∧
      exec .loopIter t = .fault (.stopped (.tableBuildError .charLookup i.val s.config.charLookup[i]))

/-- R30, R220: the state after reset is what `reset()` leaves, for the model's default configuration (log entry 6). That
the frame is then `blankFrame` (log entry 12, which R30 leaves unspecified) and that `reset()` leaves the engines and
the requests alone (log entry 8) is the model's choice. -/
def Obligations.ResetStateIsAFixedPointOfReset : Prop := exec .reset State.reset = .next State.reset

/-- The state after reset meets the invariant (log entry 6 for its configuration). -/
def Obligations.ResetStateMeetsTheInvariant : Prop := Inv State.reset

/-- R10, R12, R18, R21, R52, R141, for every engine: every step keeps the invariant: an allowed configuration, the
shared array canonical and zero outside the windows, code ROMs of their sizes and protected, `csi < 51200`, the tables
as built. -/
def Obligations.EveryStepKeepsTheInvariant : Prop :=
  ∀ s t : State, Inv s → step s = .next t → Inv t
end

