-- ==== Sys2Proof/Laws/Decode.lean ====
section
/-!
SUPPORT. The fields of the transaction keys read back what was packed (R71, R73), and the operands of the calls that
carry tables read back the tables.
-/
namespace Sys2Proof

theorem cpuOfCode_cpuCode (c : Cpu) : cpuOfCode (cpuCode c) = some c := by cases c <;> rfl

theorem cpuCode_range (c : Cpu) : 1 ≤ cpuCode c ∧ cpuCode c ≤ 3 := by cases c <;> decide

theorem toNat_bool_le_one (b : Bool) : b.toNat ≤ 1 := by cases b <;> decide

/-! ### BUS8 keys -/

theorem busKey_lt (wr : Bool) (c : Cpu) (a : Addr) : busKey wr c a < 0x80000 := by
  have := cpuCode_range c
  have := toNat_bool_le_one wr
  have := a.isLt
  unfold busKey
  omega

theorem busCpu_busKey (wr : Bool) (c : Cpu) (a : Addr) : busCpu (busKey wr c a) = some c := by
  have := cpuCode_range c
  have := a.isLt
  have h : busKey wr c a / 0x10000 % 4 = cpuCode c := by
    unfold busKey
    omega
  rw [busCpu, h, cpuOfCode_cpuCode]

theorem busWr_busKey (wr : Bool) (c : Cpu) (a : Addr) : busWr (busKey wr c a) = wr := by
  have := cpuCode_range c
  have := toNat_bool_le_one wr
  have := a.isLt
  have h : busKey wr c a / 0x40000 % 2 = wr.toNat := by
    unfold busKey
    omega
  rw [busWr, h]
  cases wr <;> rfl

theorem busAddr_busKey (wr : Bool) (c : Cpu) (a : Addr) : busAddr (busKey wr c a) = a := by
  apply BitVec.eq_of_toNat_eq
  have := a.isLt
  rw [busAddr, BitVec.toNat_ofNat, busKey]
  omega

/-! ### PORT keys -/

theorem portKey_lt (wr : Bool) (c : Cpu) (p : Byte) : portKey wr c p < 0x800 := by
  have := cpuCode_range c
  have := toNat_bool_le_one wr
  have := p.isLt
  unfold portKey
  omega

theorem portCpu_portKey (wr : Bool) (c : Cpu) (p : Byte) : portCpu (portKey wr c p) = some c := by
  have := cpuCode_range c
  have := p.isLt
  have h : portKey wr c p / 0x100 % 4 = cpuCode c := by
    unfold portKey
    omega
  rw [portCpu, h, cpuOfCode_cpuCode]

theorem portWr_portKey (wr : Bool) (c : Cpu) (p : Byte) : portWr (portKey wr c p) = wr := by
  have := cpuCode_range c
  have := toNat_bool_le_one wr
  have := p.isLt
  have h : portKey wr c p / 0x400 % 2 = wr.toNat := by
    unfold portKey
    omega
  rw [portWr, h]
  cases wr <;> rfl

theorem portNumber_portKey (wr : Bool) (c : Cpu) (p : Byte) : portNumber (portKey wr c p) = p := by
  apply BitVec.eq_of_toNat_eq
  have := p.isLt
  rw [portNumber, BitVec.toNat_ofNat, portKey]
  omega

/-! ### Operands -/

theorem operandsOfBytes_length {n : Nat} (v : Vector Byte n) : (operandsOfBytes v).length = n := by
  simp [operandsOfBytes]

theorem operandsOfBytes_getD {n : Nat} (v : Vector Byte n) (i : Nat) (h : i < n) :
    (operandsOfBytes v).getD i 0 = v[i].toNat := by
  simp [operandsOfBytes, h]

theorem bytesOfOperands_operandsOfBytes {n : Nat} (v : Vector Byte n) :
    bytesOfOperands n (operandsOfBytes v) = some v := by
  rw [bytesOfOperands, if_pos]
  · refine congrArg some (Vector.ext fun i hi => ?_)
    rw [Vector.getElem_ofFn, operandsOfBytes_getD v i hi, BitVec.ofNat_toNat, BitVec.setWidth_eq]
  · refine ⟨operandsOfBytes_length v, ?_⟩
    rw [List.all_eq_true]
    intro x hx
    obtain ⟨b, _, rfl⟩ := List.mem_map.1 hx
    exact decide_eq_true b.isLt

theorem flatMap_color_getD (l : List Color) (i : Nat) (h : i < l.length) :
    let o := l.flatMap fun c => [c.r.toNat, c.g.toNat, c.b.toNat]
    o.getD (3 * i) 0 = l[i].r.toNat ∧ o.getD (3 * i + 1) 0 = l[i].g.toNat ∧ o.getD (3 * i + 2) 0 = l[i].b.toNat := by
  induction l generalizing i with
  | nil => exact absurd h (Nat.not_lt_zero i)
  | cons c l ih =>
    cases i with
    | zero => exact ⟨rfl, rfl, rfl⟩
    | succ i => exact ih i (Nat.lt_of_succ_lt_succ h)

theorem operandsOfColors_length (t : ColorTable) : (operandsOfColors t).length = 96 := by
  have h : ∀ l : List Color, (l.flatMap fun c => [c.r.toNat, c.g.toNat, c.b.toNat]).length = 3 * l.length := by
    intro l
    induction l with
    | nil => rfl
    | cons c l ih => simp only [List.flatMap_cons, List.length_append, ih, List.length_cons, List.length_nil]; omega
  rw [operandsOfColors, h, Vector.length_toList]

theorem colorsOfOperands_operandsOfColors (t : ColorTable) : colorsOfOperands (operandsOfColors t) = some t := by
  rw [colorsOfOperands, if_pos]
  · refine congrArg some (Vector.ext fun i hi => ?_)
    obtain ⟨hr, hg, hb⟩ := flatMap_color_getD t.toList i (by rw [Vector.length_toList]; exact hi)
    rw [Vector.getElem_ofFn]
    simp only [operandsOfColors]
    rw [hr, hg, hb]
    simp
  · refine ⟨operandsOfColors_length t, ?_⟩
    rw [List.all_eq_true]
    intro x hx
    obtain ⟨c, _, hc⟩ := List.mem_flatMap.1 hx
    have : x = c.r.toNat ∨ x = c.g.toNat ∨ x = c.b.toNat := by simpa using hc
    rcases this with rfl | rfl | rfl <;> exact decide_eq_true (BitVec.isLt _)

end Sys2Proof
end

