-- ==== Sys2Proof/Laws/Memory.lean ====
section
/-!
SUPPORT. The laws of the byte arrays: a read after a write, and the canonical form that every write keeps.
-/
namespace Sys2Proof

@[simp] theorem Memory.read_nil (a : Nat) : Memory.read [] a = 0x00 := rfl

theorem Memory.read_cons (k : Nat) (w : Byte) (m : Memory) (a : Nat) :
    Memory.read ((k, w) :: m) a = if k = a then w else Memory.read m a := rfl

theorem Memory.wfFrom_cons {lo k : Nat} {w : Byte} {m : Memory} :
    Memory.wfFrom lo ((k, w) :: m) = true ↔ lo ≤ k ∧ w ≠ 0x00 ∧ Memory.wfFrom (k + 1) m = true := by
  simp [Memory.wfFrom]

theorem Memory.wfFrom_mono {lo lo' : Nat} {m : Memory} (h : lo ≤ lo') (hm : Memory.wfFrom lo' m = true) :
    Memory.wfFrom lo m = true := by
  cases m with
  | nil => rfl
  | cons c m =>
    obtain ⟨k, w⟩ := c
    rw [Memory.wfFrom_cons] at hm ⊢
    exact ⟨le_trans h hm.1, hm.2⟩

/-- Below its first possible address a canonical array reads as zero. -/
theorem Memory.read_below {lo a : Nat} {m : Memory} (hm : Memory.wfFrom lo m = true) (h : a < lo) : m.read a = 0x00 := by
  induction m generalizing lo with
  | nil => rfl
  | cons c m ih =>
    obtain ⟨k, w⟩ := c
    rw [Memory.wfFrom_cons] at hm
    rw [Memory.read_cons, if_neg (by omega)]
    exact ih hm.2.2 (by omega)

theorem Memory.write_wfFrom {lo a : Nat} {m : Memory} (v : Byte) (hm : Memory.wfFrom lo m = true) (h : lo ≤ a) :
    Memory.wfFrom lo (m.write a v) = true := by
  induction m generalizing lo with
  | nil =>
    simp only [Memory.write]
    split
    · rfl
    · exact Memory.wfFrom_cons.2 ⟨h, ‹_›, rfl⟩
  | cons c m ih =>
    obtain ⟨k, w⟩ := c
    have hc := Memory.wfFrom_cons.1 hm
    simp only [Memory.write]
    split
    · split
      · exact hm
      · exact Memory.wfFrom_cons.2 ⟨h, ‹_›, Memory.wfFrom_cons.2 ⟨by omega, hc.2⟩⟩
    · split
      · split
        · exact Memory.wfFrom_mono (by omega) hc.2.2
        · exact Memory.wfFrom_cons.2 ⟨h, ‹_›, by simpa [‹a = k›] using hc.2.2⟩
      · exact Memory.wfFrom_cons.2 ⟨hc.1, hc.2.1, ih hc.2.2 (by omega)⟩

/-- Every write keeps the canonical form. -/
theorem Memory.write_wf {m : Memory} (a : Nat) (v : Byte) (hm : m.wf = true) : (m.write a v).wf = true :=
  Memory.write_wfFrom v hm (Nat.zero_le _)

theorem Memory.read_cons_self (k : Nat) (w : Byte) (m : Memory) : Memory.read ((k, w) :: m) k = w := by
  rw [Memory.read_cons, if_pos rfl]

theorem Memory.read_cons_of_ne {k a : Nat} (w : Byte) (m : Memory) (h : k ≠ a) :
    Memory.read ((k, w) :: m) a = Memory.read m a := by
  rw [Memory.read_cons, if_neg h]

theorem Memory.read_write_from {lo a : Nat} {m : Memory} (v : Byte) (b : Nat) (hm : Memory.wfFrom lo m = true) :
    (m.write a v).read b = if b = a then v else m.read b := by
  induction m generalizing lo with
  | nil =>
    simp only [Memory.write]
    by_cases hv : v = 0x00
    · rw [if_pos hv, hv, Memory.read_nil, ite_self]
    · rw [if_neg hv, Memory.read_cons]
      simp only [eq_comm, Memory.read_nil]
  | cons c m ih =>
    obtain ⟨k, w⟩ := c
    have hc := Memory.wfFrom_cons.1 hm
    simp only [Memory.write]
    rcases lt_trichotomy a k with hk | hk | hk
    · rw [if_pos hk]
      by_cases hv : v = 0x00
      · rw [if_pos hv]
        by_cases hb : b = a
        · rw [if_pos hb, hb, hv, Memory.read_cons_of_ne _ _ (by omega), Memory.read_below hc.2.2 (by omega)]
        · rw [if_neg hb]
      · rw [if_neg hv, Memory.read_cons]
        simp only [eq_comm]
    · subst hk
      rw [if_neg (lt_irrefl a), if_pos rfl]
      by_cases hb : b = a
      · subst hb
        rw [if_pos rfl]
        by_cases hv : v = 0x00
        · rw [if_pos hv, hv, Memory.read_below hc.2.2 (by omega)]
        · rw [if_neg hv, Memory.read_cons_self]
      · rw [if_neg hb, Memory.read_cons_of_ne _ _ (Ne.symm hb)]
        by_cases hv : v = 0x00
        · rw [if_pos hv]
        · rw [if_neg hv, Memory.read_cons_of_ne _ _ (Ne.symm hb)]
    · rw [if_neg (by omega), if_neg (by omega), Memory.read_cons, Memory.read_cons, ih hc.2.2]
      by_cases hb : k = b
      · rw [if_pos hb, if_neg (by omega), if_pos hb]
      · rw [if_neg hb, if_neg hb]

/-- What every byte reads after a write to a canonical array. -/
theorem Memory.read_write {m : Memory} (a b : Nat) (v : Byte) (hm : m.wf = true) :
    (m.write a v).read b = if b = a then v else m.read b := Memory.read_write_from v b hm

/-- A read after a write to the same address. -/
theorem Memory.read_write_same {m : Memory} (a : Nat) (v : Byte) (hm : m.wf = true) : (m.write a v).read a = v := by
  rw [Memory.read_write a a v hm, if_pos rfl]

/-- A write leaves every other address alone. -/
theorem Memory.read_write_other {m : Memory} {a b : Nat} (v : Byte) (hm : m.wf = true) (h : b ≠ a) :
    (m.write a v).read b = m.read b := by
  rw [Memory.read_write a b v hm, if_neg h]

theorem Memory.within_cons {p : Nat → Bool} {k : Nat} {w : Byte} {m : Memory} :
    Memory.within p ((k, w) :: m) = true ↔ p k = true ∧ Memory.within p m = true := by
  rw [Memory.within, List.all_cons, Bool.and_eq_true]
  exact Iff.rfl

/-- A write lists no address but its own and those listed before. -/
theorem Memory.write_within {p : Nat → Bool} {m : Memory} {a : Nat} (v : Byte) (hm : m.within p = true)
    (ha : p a = true) : (m.write a v).within p = true := by
  induction m with
  | nil =>
    simp only [Memory.write]
    split
    · rfl
    · exact Memory.within_cons.2 ⟨ha, rfl⟩
  | cons c m ih =>
    obtain ⟨k, w⟩ := c
    have hc := Memory.within_cons.1 hm
    simp only [Memory.write]
    split
    · split
      · exact hm
      · exact Memory.within_cons.2 ⟨ha, hm⟩
    · split
      · split
        · exact hc.2
        · exact Memory.within_cons.2 ⟨ha, hc.2⟩
      · exact Memory.within_cons.2 ⟨hc.1, ih hc.2⟩

/-- A write to a canonical array of `n` bytes at one of its addresses leaves a canonical array of `n` bytes. -/
theorem Memory.write_keeps_wf_within {p : Nat → Bool} {m : Memory} {a : Nat} (v : Byte) (hw : m.wf = true)
    (hm : m.within p = true) (ha : p a = true) : (m.write a v).wf = true ∧ (m.write a v).within p = true :=
  ⟨Memory.write_wf a v hw, Memory.write_within v hm ha⟩

end Sys2Proof
end

