-- ==== Sys2Proof/Laws/State.lean ====
section
/-!
SUPPORT. The small lemmas of the state updates of Machine/Ops.lean: what each field reads after each update. Later
proofs cite them and unfold no record.
-/
namespace Sys2Proof

@[simp] theorem PerCpu.get_set_same {α : Type} (t : PerCpu α) (c : Cpu) (x : α) : (t.set c x).get c = x := by
  cases c <;> rfl

@[simp] theorem PerCpu.get_set_other {α : Type} (t : PerCpu α) {c d : Cpu} (x : α) (h : d ≠ c) :
    (t.set c x).get d = t.get d := by
  cases c <;> cases d <;> first | rfl | exact absurd rfl h

@[simp] theorem PerCpu.set_set {α : Type} (t : PerCpu α) (c : Cpu) (x y : α) : (t.set c x).set c y = t.set c y := by
  cases c <;> rfl

@[simp] theorem PerCpu.get_c1 {α : Type} (t : PerCpu α) : t.get .cpu1 = t.c1 := rfl
@[simp] theorem PerCpu.get_c2 {α : Type} (t : PerCpu α) : t.get .cpu2 = t.c2 := rfl
@[simp] theorem PerCpu.get_c3 {α : Type} (t : PerCpu α) : t.get .cpu3 = t.c3 := rfl
@[simp] theorem PerCpu.set1_c1 {α : Type} (t : PerCpu α) (x : α) : (t.set .cpu1 x).c1 = x := rfl
@[simp] theorem PerCpu.set1_c2 {α : Type} (t : PerCpu α) (x : α) : (t.set .cpu1 x).c2 = t.c2 := rfl
@[simp] theorem PerCpu.set1_c3 {α : Type} (t : PerCpu α) (x : α) : (t.set .cpu1 x).c3 = t.c3 := rfl
@[simp] theorem PerCpu.set2_c1 {α : Type} (t : PerCpu α) (x : α) : (t.set .cpu2 x).c1 = t.c1 := rfl
@[simp] theorem PerCpu.set2_c2 {α : Type} (t : PerCpu α) (x : α) : (t.set .cpu2 x).c2 = x := rfl
@[simp] theorem PerCpu.set2_c3 {α : Type} (t : PerCpu α) (x : α) : (t.set .cpu2 x).c3 = t.c3 := rfl
@[simp] theorem PerCpu.set3_c1 {α : Type} (t : PerCpu α) (x : α) : (t.set .cpu3 x).c1 = t.c1 := rfl
@[simp] theorem PerCpu.set3_c2 {α : Type} (t : PerCpu α) (x : α) : (t.set .cpu3 x).c2 = t.c2 := rfl
@[simp] theorem PerCpu.set3_c3 {α : Type} (t : PerCpu α) (x : α) : (t.set .cpu3 x).c3 = x := rfl

namespace Machine

/-! ### `setRom` -/
@[simp] theorem State.setRom_config (s : State) (c : Cpu) (m : Memory) :
    (s.setRom c m).config = s.config := by cases c <;> rfl
@[simp] theorem State.setRom_mem (s : State) (c : Cpu) (m : Memory) : (s.setRom c m).mem = s.mem := by cases c <;> rfl
@[simp] theorem State.setRom_ie (s : State) (c : Cpu) (m : Memory) : (s.setRom c m).ie = s.ie := by cases c <;> rfl
@[simp] theorem State.setRom_halt2 (s : State) (c : Cpu) (m : Memory) :
    (s.setRom c m).halt2 = s.halt2 := by cases c <;> rfl
@[simp] theorem State.setRom_halt3 (s : State) (c : Cpu) (m : Memory) :
    (s.setRom c m).halt3 = s.halt3 := by cases c <;> rfl
@[simp] theorem State.setRom_port0 (s : State) (c : Cpu) (m : Memory) :
    (s.setRom c m).port0 = s.port0 := by cases c <;> rfl
@[simp] theorem State.setRom_csi (s : State) (c : Cpu) (m : Memory) : (s.setRom c m).csi = s.csi := by cases c <;> rfl
@[simp] theorem State.setRom_fault (s : State) (c : Cpu) (m : Memory) :
    (s.setRom c m).fault = s.fault := by cases c <;> rfl
@[simp] theorem State.setRom_colors (s : State) (c : Cpu) (m : Memory) :
    (s.setRom c m).colors = s.colors := by cases c <;> rfl
@[simp] theorem State.setRom_palettes (s : State) (c : Cpu) (m : Memory) :
    (s.setRom c m).palettes = s.palettes := by cases c <;> rfl
@[simp] theorem State.setRom_frame (s : State) (c : Cpu) (m : Memory) :
    (s.setRom c m).frame = s.frame := by cases c <;> rfl
@[simp] theorem State.setRom_diag (s : State) (c : Cpu) (m : Memory) :
    (s.setRom c m).diag = s.diag := by cases c <;> rfl
@[simp] theorem State.setRom_irqOut (s : State) (c : Cpu) (m : Memory) :
    (s.setRom c m).irqOut = s.irqOut := by cases c <;> rfl
@[simp] theorem State.setRom_frameOut (s : State) (c : Cpu) (m : Memory) :
    (s.setRom c m).frameOut = s.frameOut := by cases c <;> rfl
@[simp] theorem State.setRom_engines (s : State) (c : Cpu) (m : Memory) :
    (s.setRom c m).engines = s.engines := by cases c <;> rfl
@[simp] theorem State.setRom_requests (s : State) (c : Cpu) (m : Memory) :
    (s.setRom c m).requests = s.requests := by cases c <;> rfl
@[simp] theorem State.setRom_reply (s : State) (c : Cpu) (m : Memory) :
    (s.setRom c m).reply = s.reply := by cases c <;> rfl

/-! ### `setMem` -/
@[simp] theorem State.setMem_config (s : State) (m : Memory) : (s.setMem m).config = s.config := rfl
@[simp] theorem State.setMem_rom1 (s : State) (m : Memory) : (s.setMem m).rom1 = s.rom1 := rfl
@[simp] theorem State.setMem_rom2 (s : State) (m : Memory) : (s.setMem m).rom2 = s.rom2 := rfl
@[simp] theorem State.setMem_rom3 (s : State) (m : Memory) : (s.setMem m).rom3 = s.rom3 := rfl
@[simp] theorem State.setMem_mem (s : State) (m : Memory) : (s.setMem m).mem = m := rfl
@[simp] theorem State.setMem_ie (s : State) (m : Memory) : (s.setMem m).ie = s.ie := rfl
@[simp] theorem State.setMem_halt2 (s : State) (m : Memory) : (s.setMem m).halt2 = s.halt2 := rfl
@[simp] theorem State.setMem_halt3 (s : State) (m : Memory) : (s.setMem m).halt3 = s.halt3 := rfl
@[simp] theorem State.setMem_port0 (s : State) (m : Memory) : (s.setMem m).port0 = s.port0 := rfl
@[simp] theorem State.setMem_csi (s : State) (m : Memory) : (s.setMem m).csi = s.csi := rfl
@[simp] theorem State.setMem_fault (s : State) (m : Memory) : (s.setMem m).fault = s.fault := rfl
@[simp] theorem State.setMem_colors (s : State) (m : Memory) : (s.setMem m).colors = s.colors := rfl
@[simp] theorem State.setMem_palettes (s : State) (m : Memory) : (s.setMem m).palettes = s.palettes := rfl
@[simp] theorem State.setMem_frame (s : State) (m : Memory) : (s.setMem m).frame = s.frame := rfl
@[simp] theorem State.setMem_diag (s : State) (m : Memory) : (s.setMem m).diag = s.diag := rfl
@[simp] theorem State.setMem_irqOut (s : State) (m : Memory) : (s.setMem m).irqOut = s.irqOut := rfl
@[simp] theorem State.setMem_frameOut (s : State) (m : Memory) : (s.setMem m).frameOut = s.frameOut := rfl
@[simp] theorem State.setMem_engines (s : State) (m : Memory) : (s.setMem m).engines = s.engines := rfl
@[simp] theorem State.setMem_requests (s : State) (m : Memory) : (s.setMem m).requests = s.requests := rfl
@[simp] theorem State.setMem_reply (s : State) (m : Memory) : (s.setMem m).reply = s.reply := rfl
@[simp] theorem State.setMem_romOf (s : State) (m : Memory) (d : Cpu) :
    (s.setMem m).romOf d = s.romOf d := by cases d <;> rfl
@[simp] theorem State.setMem_halted (s : State) (m : Memory) (d : Cpu) :
    (s.setMem m).halted d = s.halted d := by cases d <;> rfl

/-! ### `setIe` -/
@[simp] theorem State.setIe_config (s : State) (c : Cpu) (b : Bool) : (s.setIe c b).config = s.config := rfl
@[simp] theorem State.setIe_rom1 (s : State) (c : Cpu) (b : Bool) : (s.setIe c b).rom1 = s.rom1 := rfl
@[simp] theorem State.setIe_rom2 (s : State) (c : Cpu) (b : Bool) : (s.setIe c b).rom2 = s.rom2 := rfl
@[simp] theorem State.setIe_rom3 (s : State) (c : Cpu) (b : Bool) : (s.setIe c b).rom3 = s.rom3 := rfl
@[simp] theorem State.setIe_mem (s : State) (c : Cpu) (b : Bool) : (s.setIe c b).mem = s.mem := rfl
@[simp] theorem State.setIe_ie (s : State) (c : Cpu) (b : Bool) : (s.setIe c b).ie = s.ie.set c b := rfl
@[simp] theorem State.setIe_halt2 (s : State) (c : Cpu) (b : Bool) : (s.setIe c b).halt2 = s.halt2 := rfl
@[simp] theorem State.setIe_halt3 (s : State) (c : Cpu) (b : Bool) : (s.setIe c b).halt3 = s.halt3 := rfl
@[simp] theorem State.setIe_port0 (s : State) (c : Cpu) (b : Bool) : (s.setIe c b).port0 = s.port0 := rfl
@[simp] theorem State.setIe_csi (s : State) (c : Cpu) (b : Bool) : (s.setIe c b).csi = s.csi := rfl
@[simp] theorem State.setIe_fault (s : State) (c : Cpu) (b : Bool) : (s.setIe c b).fault = s.fault := rfl
@[simp] theorem State.setIe_colors (s : State) (c : Cpu) (b : Bool) : (s.setIe c b).colors = s.colors := rfl
@[simp] theorem State.setIe_palettes (s : State) (c : Cpu) (b : Bool) : (s.setIe c b).palettes = s.palettes := rfl
@[simp] theorem State.setIe_frame (s : State) (c : Cpu) (b : Bool) : (s.setIe c b).frame = s.frame := rfl
@[simp] theorem State.setIe_diag (s : State) (c : Cpu) (b : Bool) : (s.setIe c b).diag = s.diag := rfl
@[simp] theorem State.setIe_irqOut (s : State) (c : Cpu) (b : Bool) : (s.setIe c b).irqOut = s.irqOut := rfl
@[simp] theorem State.setIe_frameOut (s : State) (c : Cpu) (b : Bool) : (s.setIe c b).frameOut = s.frameOut := rfl
@[simp] theorem State.setIe_engines (s : State) (c : Cpu) (b : Bool) : (s.setIe c b).engines = s.engines := rfl
@[simp] theorem State.setIe_requests (s : State) (c : Cpu) (b : Bool) : (s.setIe c b).requests = s.requests := rfl
@[simp] theorem State.setIe_reply (s : State) (c : Cpu) (b : Bool) : (s.setIe c b).reply = s.reply := rfl
@[simp] theorem State.setIe_romOf (s : State) (c : Cpu) (b : Bool) (d : Cpu) :
    (s.setIe c b).romOf d = s.romOf d := by cases d <;> rfl
@[simp] theorem State.setIe_halted (s : State) (c : Cpu) (b : Bool) (d : Cpu) :
    (s.setIe c b).halted d = s.halted d := by cases d <;> rfl

/-! ### `setHalt2` -/
@[simp] theorem State.setHalt2_config (s : State) (b : Bool) : (s.setHalt2 b).config = s.config := rfl
@[simp] theorem State.setHalt2_rom1 (s : State) (b : Bool) : (s.setHalt2 b).rom1 = s.rom1 := rfl
@[simp] theorem State.setHalt2_rom2 (s : State) (b : Bool) : (s.setHalt2 b).rom2 = s.rom2 := rfl
@[simp] theorem State.setHalt2_rom3 (s : State) (b : Bool) : (s.setHalt2 b).rom3 = s.rom3 := rfl
@[simp] theorem State.setHalt2_mem (s : State) (b : Bool) : (s.setHalt2 b).mem = s.mem := rfl
@[simp] theorem State.setHalt2_ie (s : State) (b : Bool) : (s.setHalt2 b).ie = s.ie := rfl
@[simp] theorem State.setHalt2_halt2 (s : State) (b : Bool) : (s.setHalt2 b).halt2 = b := rfl
@[simp] theorem State.setHalt2_halt3 (s : State) (b : Bool) : (s.setHalt2 b).halt3 = s.halt3 := rfl
@[simp] theorem State.setHalt2_port0 (s : State) (b : Bool) : (s.setHalt2 b).port0 = s.port0 := rfl
@[simp] theorem State.setHalt2_csi (s : State) (b : Bool) : (s.setHalt2 b).csi = s.csi := rfl
@[simp] theorem State.setHalt2_fault (s : State) (b : Bool) : (s.setHalt2 b).fault = s.fault := rfl
@[simp] theorem State.setHalt2_colors (s : State) (b : Bool) : (s.setHalt2 b).colors = s.colors := rfl
@[simp] theorem State.setHalt2_palettes (s : State) (b : Bool) : (s.setHalt2 b).palettes = s.palettes := rfl
@[simp] theorem State.setHalt2_frame (s : State) (b : Bool) : (s.setHalt2 b).frame = s.frame := rfl
@[simp] theorem State.setHalt2_diag (s : State) (b : Bool) : (s.setHalt2 b).diag = s.diag := rfl
@[simp] theorem State.setHalt2_irqOut (s : State) (b : Bool) : (s.setHalt2 b).irqOut = s.irqOut := rfl
@[simp] theorem State.setHalt2_frameOut (s : State) (b : Bool) : (s.setHalt2 b).frameOut = s.frameOut := rfl
@[simp] theorem State.setHalt2_engines (s : State) (b : Bool) : (s.setHalt2 b).engines = s.engines := rfl
@[simp] theorem State.setHalt2_requests (s : State) (b : Bool) : (s.setHalt2 b).requests = s.requests := rfl
@[simp] theorem State.setHalt2_reply (s : State) (b : Bool) : (s.setHalt2 b).reply = s.reply := rfl
@[simp] theorem State.setHalt2_romOf (s : State) (b : Bool) (d : Cpu) :
    (s.setHalt2 b).romOf d = s.romOf d := by cases d <;> rfl

/-! ### `setHalt3` -/
@[simp] theorem State.setHalt3_config (s : State) (b : Bool) : (s.setHalt3 b).config = s.config := rfl
@[simp] theorem State.setHalt3_rom1 (s : State) (b : Bool) : (s.setHalt3 b).rom1 = s.rom1 := rfl
@[simp] theorem State.setHalt3_rom2 (s : State) (b : Bool) : (s.setHalt3 b).rom2 = s.rom2 := rfl
@[simp] theorem State.setHalt3_rom3 (s : State) (b : Bool) : (s.setHalt3 b).rom3 = s.rom3 := rfl
@[simp] theorem State.setHalt3_mem (s : State) (b : Bool) : (s.setHalt3 b).mem = s.mem := rfl
@[simp] theorem State.setHalt3_ie (s : State) (b : Bool) : (s.setHalt3 b).ie = s.ie := rfl
@[simp] theorem State.setHalt3_halt2 (s : State) (b : Bool) : (s.setHalt3 b).halt2 = s.halt2 := rfl
@[simp] theorem State.setHalt3_halt3 (s : State) (b : Bool) : (s.setHalt3 b).halt3 = b := rfl
@[simp] theorem State.setHalt3_port0 (s : State) (b : Bool) : (s.setHalt3 b).port0 = s.port0 := rfl
@[simp] theorem State.setHalt3_csi (s : State) (b : Bool) : (s.setHalt3 b).csi = s.csi := rfl
@[simp] theorem State.setHalt3_fault (s : State) (b : Bool) : (s.setHalt3 b).fault = s.fault := rfl
@[simp] theorem State.setHalt3_colors (s : State) (b : Bool) : (s.setHalt3 b).colors = s.colors := rfl
@[simp] theorem State.setHalt3_palettes (s : State) (b : Bool) : (s.setHalt3 b).palettes = s.palettes := rfl
@[simp] theorem State.setHalt3_frame (s : State) (b : Bool) : (s.setHalt3 b).frame = s.frame := rfl
@[simp] theorem State.setHalt3_diag (s : State) (b : Bool) : (s.setHalt3 b).diag = s.diag := rfl
@[simp] theorem State.setHalt3_irqOut (s : State) (b : Bool) : (s.setHalt3 b).irqOut = s.irqOut := rfl
@[simp] theorem State.setHalt3_frameOut (s : State) (b : Bool) : (s.setHalt3 b).frameOut = s.frameOut := rfl
@[simp] theorem State.setHalt3_engines (s : State) (b : Bool) : (s.setHalt3 b).engines = s.engines := rfl
@[simp] theorem State.setHalt3_requests (s : State) (b : Bool) : (s.setHalt3 b).requests = s.requests := rfl
@[simp] theorem State.setHalt3_reply (s : State) (b : Bool) : (s.setHalt3 b).reply = s.reply := rfl
@[simp] theorem State.setHalt3_romOf (s : State) (b : Bool) (d : Cpu) :
    (s.setHalt3 b).romOf d = s.romOf d := by cases d <;> rfl

/-! ### `setPort0` -/
@[simp] theorem State.setPort0_config (s : State) (v : Byte) : (s.setPort0 v).config = s.config := rfl
@[simp] theorem State.setPort0_rom1 (s : State) (v : Byte) : (s.setPort0 v).rom1 = s.rom1 := rfl
@[simp] theorem State.setPort0_rom2 (s : State) (v : Byte) : (s.setPort0 v).rom2 = s.rom2 := rfl
@[simp] theorem State.setPort0_rom3 (s : State) (v : Byte) : (s.setPort0 v).rom3 = s.rom3 := rfl
@[simp] theorem State.setPort0_mem (s : State) (v : Byte) : (s.setPort0 v).mem = s.mem := rfl
@[simp] theorem State.setPort0_ie (s : State) (v : Byte) : (s.setPort0 v).ie = s.ie := rfl
@[simp] theorem State.setPort0_halt2 (s : State) (v : Byte) : (s.setPort0 v).halt2 = s.halt2 := rfl
@[simp] theorem State.setPort0_halt3 (s : State) (v : Byte) : (s.setPort0 v).halt3 = s.halt3 := rfl
@[simp] theorem State.setPort0_port0 (s : State) (v : Byte) : (s.setPort0 v).port0 = v := rfl
@[simp] theorem State.setPort0_csi (s : State) (v : Byte) : (s.setPort0 v).csi = s.csi := rfl
@[simp] theorem State.setPort0_fault (s : State) (v : Byte) : (s.setPort0 v).fault = s.fault := rfl
@[simp] theorem State.setPort0_colors (s : State) (v : Byte) : (s.setPort0 v).colors = s.colors := rfl
@[simp] theorem State.setPort0_palettes (s : State) (v : Byte) : (s.setPort0 v).palettes = s.palettes := rfl
@[simp] theorem State.setPort0_frame (s : State) (v : Byte) : (s.setPort0 v).frame = s.frame := rfl
@[simp] theorem State.setPort0_diag (s : State) (v : Byte) : (s.setPort0 v).diag = s.diag := rfl
@[simp] theorem State.setPort0_irqOut (s : State) (v : Byte) : (s.setPort0 v).irqOut = s.irqOut := rfl
@[simp] theorem State.setPort0_frameOut (s : State) (v : Byte) : (s.setPort0 v).frameOut = s.frameOut := rfl
@[simp] theorem State.setPort0_engines (s : State) (v : Byte) : (s.setPort0 v).engines = s.engines := rfl
@[simp] theorem State.setPort0_requests (s : State) (v : Byte) : (s.setPort0 v).requests = s.requests := rfl
@[simp] theorem State.setPort0_reply (s : State) (v : Byte) : (s.setPort0 v).reply = s.reply := rfl
@[simp] theorem State.setPort0_romOf (s : State) (v : Byte) (d : Cpu) :
    (s.setPort0 v).romOf d = s.romOf d := by cases d <;> rfl
@[simp] theorem State.setPort0_halted (s : State) (v : Byte) (d : Cpu) :
    (s.setPort0 v).halted d = s.halted d := by cases d <;> rfl

/-! ### `setCsi` -/
@[simp] theorem State.setCsi_config (s : State) (n : Nat) : (s.setCsi n).config = s.config := rfl
@[simp] theorem State.setCsi_rom1 (s : State) (n : Nat) : (s.setCsi n).rom1 = s.rom1 := rfl
@[simp] theorem State.setCsi_rom2 (s : State) (n : Nat) : (s.setCsi n).rom2 = s.rom2 := rfl
@[simp] theorem State.setCsi_rom3 (s : State) (n : Nat) : (s.setCsi n).rom3 = s.rom3 := rfl
@[simp] theorem State.setCsi_mem (s : State) (n : Nat) : (s.setCsi n).mem = s.mem := rfl
@[simp] theorem State.setCsi_ie (s : State) (n : Nat) : (s.setCsi n).ie = s.ie := rfl
@[simp] theorem State.setCsi_halt2 (s : State) (n : Nat) : (s.setCsi n).halt2 = s.halt2 := rfl
@[simp] theorem State.setCsi_halt3 (s : State) (n : Nat) : (s.setCsi n).halt3 = s.halt3 := rfl
@[simp] theorem State.setCsi_port0 (s : State) (n : Nat) : (s.setCsi n).port0 = s.port0 := rfl
@[simp] theorem State.setCsi_csi (s : State) (n : Nat) : (s.setCsi n).csi = n := rfl
@[simp] theorem State.setCsi_fault (s : State) (n : Nat) : (s.setCsi n).fault = s.fault := rfl
@[simp] theorem State.setCsi_colors (s : State) (n : Nat) : (s.setCsi n).colors = s.colors := rfl
@[simp] theorem State.setCsi_palettes (s : State) (n : Nat) : (s.setCsi n).palettes = s.palettes := rfl
@[simp] theorem State.setCsi_frame (s : State) (n : Nat) : (s.setCsi n).frame = s.frame := rfl
@[simp] theorem State.setCsi_diag (s : State) (n : Nat) : (s.setCsi n).diag = s.diag := rfl
@[simp] theorem State.setCsi_irqOut (s : State) (n : Nat) : (s.setCsi n).irqOut = s.irqOut := rfl
@[simp] theorem State.setCsi_frameOut (s : State) (n : Nat) : (s.setCsi n).frameOut = s.frameOut := rfl
@[simp] theorem State.setCsi_engines (s : State) (n : Nat) : (s.setCsi n).engines = s.engines := rfl
@[simp] theorem State.setCsi_requests (s : State) (n : Nat) : (s.setCsi n).requests = s.requests := rfl
@[simp] theorem State.setCsi_reply (s : State) (n : Nat) : (s.setCsi n).reply = s.reply := rfl
@[simp] theorem State.setCsi_romOf (s : State) (n : Nat) (d : Cpu) :
    (s.setCsi n).romOf d = s.romOf d := by cases d <;> rfl
@[simp] theorem State.setCsi_halted (s : State) (n : Nat) (d : Cpu) :
    (s.setCsi n).halted d = s.halted d := by cases d <;> rfl

/-! ### `setFault` -/
@[simp] theorem State.setFault_config (s : State) (k : Option FaultKind) : (s.setFault k).config = s.config := rfl
@[simp] theorem State.setFault_rom1 (s : State) (k : Option FaultKind) : (s.setFault k).rom1 = s.rom1 := rfl
@[simp] theorem State.setFault_rom2 (s : State) (k : Option FaultKind) : (s.setFault k).rom2 = s.rom2 := rfl
@[simp] theorem State.setFault_rom3 (s : State) (k : Option FaultKind) : (s.setFault k).rom3 = s.rom3 := rfl
@[simp] theorem State.setFault_mem (s : State) (k : Option FaultKind) : (s.setFault k).mem = s.mem := rfl
@[simp] theorem State.setFault_ie (s : State) (k : Option FaultKind) : (s.setFault k).ie = s.ie := rfl
@[simp] theorem State.setFault_halt2 (s : State) (k : Option FaultKind) : (s.setFault k).halt2 = s.halt2 := rfl
@[simp] theorem State.setFault_halt3 (s : State) (k : Option FaultKind) : (s.setFault k).halt3 = s.halt3 := rfl
@[simp] theorem State.setFault_port0 (s : State) (k : Option FaultKind) : (s.setFault k).port0 = s.port0 := rfl
@[simp] theorem State.setFault_csi (s : State) (k : Option FaultKind) : (s.setFault k).csi = s.csi := rfl
@[simp] theorem State.setFault_fault (s : State) (k : Option FaultKind) : (s.setFault k).fault = k := rfl
@[simp] theorem State.setFault_colors (s : State) (k : Option FaultKind) : (s.setFault k).colors = s.colors := rfl
@[simp] theorem State.setFault_palettes (s : State) (k : Option FaultKind) : (s.setFault k).palettes = s.palettes := rfl
@[simp] theorem State.setFault_frame (s : State) (k : Option FaultKind) : (s.setFault k).frame = s.frame := rfl
@[simp] theorem State.setFault_diag (s : State) (k : Option FaultKind) : (s.setFault k).diag = s.diag := rfl
@[simp] theorem State.setFault_irqOut (s : State) (k : Option FaultKind) : (s.setFault k).irqOut = s.irqOut := rfl
@[simp] theorem State.setFault_frameOut (s : State) (k : Option FaultKind) : (s.setFault k).frameOut = s.frameOut := rfl
@[simp] theorem State.setFault_engines (s : State) (k : Option FaultKind) : (s.setFault k).engines = s.engines := rfl
@[simp] theorem State.setFault_requests (s : State) (k : Option FaultKind) : (s.setFault k).requests = s.requests := rfl
@[simp] theorem State.setFault_reply (s : State) (k : Option FaultKind) : (s.setFault k).reply = s.reply := rfl
@[simp] theorem State.setFault_romOf (s : State) (k : Option FaultKind) (d : Cpu) :
    (s.setFault k).romOf d = s.romOf d := by cases d <;> rfl
@[simp] theorem State.setFault_halted (s : State) (k : Option FaultKind) (d : Cpu) :
    (s.setFault k).halted d = s.halted d := by cases d <;> rfl

/-! ### `setColors` -/
@[simp] theorem State.setColors_config (s : State) (t : ColorTable) : (s.setColors t).config = s.config := rfl
@[simp] theorem State.setColors_rom1 (s : State) (t : ColorTable) : (s.setColors t).rom1 = s.rom1 := rfl
@[simp] theorem State.setColors_rom2 (s : State) (t : ColorTable) : (s.setColors t).rom2 = s.rom2 := rfl
@[simp] theorem State.setColors_rom3 (s : State) (t : ColorTable) : (s.setColors t).rom3 = s.rom3 := rfl
@[simp] theorem State.setColors_mem (s : State) (t : ColorTable) : (s.setColors t).mem = s.mem := rfl
@[simp] theorem State.setColors_ie (s : State) (t : ColorTable) : (s.setColors t).ie = s.ie := rfl
@[simp] theorem State.setColors_halt2 (s : State) (t : ColorTable) : (s.setColors t).halt2 = s.halt2 := rfl
@[simp] theorem State.setColors_halt3 (s : State) (t : ColorTable) : (s.setColors t).halt3 = s.halt3 := rfl
@[simp] theorem State.setColors_port0 (s : State) (t : ColorTable) : (s.setColors t).port0 = s.port0 := rfl
@[simp] theorem State.setColors_csi (s : State) (t : ColorTable) : (s.setColors t).csi = s.csi := rfl
@[simp] theorem State.setColors_fault (s : State) (t : ColorTable) : (s.setColors t).fault = s.fault := rfl
@[simp] theorem State.setColors_colors (s : State) (t : ColorTable) : (s.setColors t).colors = t := rfl
@[simp] theorem State.setColors_palettes (s : State) (t : ColorTable) : (s.setColors t).palettes = s.palettes := rfl
@[simp] theorem State.setColors_frame (s : State) (t : ColorTable) : (s.setColors t).frame = s.frame := rfl
@[simp] theorem State.setColors_diag (s : State) (t : ColorTable) : (s.setColors t).diag = s.diag := rfl
@[simp] theorem State.setColors_irqOut (s : State) (t : ColorTable) : (s.setColors t).irqOut = s.irqOut := rfl
@[simp] theorem State.setColors_frameOut (s : State) (t : ColorTable) : (s.setColors t).frameOut = s.frameOut := rfl
@[simp] theorem State.setColors_engines (s : State) (t : ColorTable) : (s.setColors t).engines = s.engines := rfl
@[simp] theorem State.setColors_requests (s : State) (t : ColorTable) : (s.setColors t).requests = s.requests := rfl
@[simp] theorem State.setColors_reply (s : State) (t : ColorTable) : (s.setColors t).reply = s.reply := rfl
@[simp] theorem State.setColors_romOf (s : State) (t : ColorTable) (d : Cpu) :
    (s.setColors t).romOf d = s.romOf d := by cases d <;> rfl
@[simp] theorem State.setColors_halted (s : State) (t : ColorTable) (d : Cpu) :
    (s.setColors t).halted d = s.halted d := by cases d <;> rfl

/-! ### `setPalettes` -/
@[simp] theorem State.setPalettes_config (s : State) (t : PaletteTable) : (s.setPalettes t).config = s.config := rfl
@[simp] theorem State.setPalettes_rom1 (s : State) (t : PaletteTable) : (s.setPalettes t).rom1 = s.rom1 := rfl
@[simp] theorem State.setPalettes_rom2 (s : State) (t : PaletteTable) : (s.setPalettes t).rom2 = s.rom2 := rfl
@[simp] theorem State.setPalettes_rom3 (s : State) (t : PaletteTable) : (s.setPalettes t).rom3 = s.rom3 := rfl
@[simp] theorem State.setPalettes_mem (s : State) (t : PaletteTable) : (s.setPalettes t).mem = s.mem := rfl
@[simp] theorem State.setPalettes_ie (s : State) (t : PaletteTable) : (s.setPalettes t).ie = s.ie := rfl
@[simp] theorem State.setPalettes_halt2 (s : State) (t : PaletteTable) : (s.setPalettes t).halt2 = s.halt2 := rfl
@[simp] theorem State.setPalettes_halt3 (s : State) (t : PaletteTable) : (s.setPalettes t).halt3 = s.halt3 := rfl
@[simp] theorem State.setPalettes_port0 (s : State) (t : PaletteTable) : (s.setPalettes t).port0 = s.port0 := rfl
@[simp] theorem State.setPalettes_csi (s : State) (t : PaletteTable) : (s.setPalettes t).csi = s.csi := rfl
@[simp] theorem State.setPalettes_fault (s : State) (t : PaletteTable) : (s.setPalettes t).fault = s.fault := rfl
@[simp] theorem State.setPalettes_colors (s : State) (t : PaletteTable) : (s.setPalettes t).colors = s.colors := rfl
@[simp] theorem State.setPalettes_palettes (s : State) (t : PaletteTable) : (s.setPalettes t).palettes = t := rfl
@[simp] theorem State.setPalettes_frame (s : State) (t : PaletteTable) : (s.setPalettes t).frame = s.frame := rfl
@[simp] theorem State.setPalettes_diag (s : State) (t : PaletteTable) : (s.setPalettes t).diag = s.diag := rfl
@[simp] theorem State.setPalettes_irqOut (s : State) (t : PaletteTable) : (s.setPalettes t).irqOut = s.irqOut := rfl
@[simp] theorem State.setPalettes_frameOut (s : State) (t : PaletteTable) :
    (s.setPalettes t).frameOut = s.frameOut := rfl
@[simp] theorem State.setPalettes_engines (s : State) (t : PaletteTable) : (s.setPalettes t).engines = s.engines := rfl
@[simp] theorem State.setPalettes_requests (s : State) (t : PaletteTable) :
    (s.setPalettes t).requests = s.requests := rfl
@[simp] theorem State.setPalettes_reply (s : State) (t : PaletteTable) : (s.setPalettes t).reply = s.reply := rfl
@[simp] theorem State.setPalettes_romOf (s : State) (t : PaletteTable) (d : Cpu) :
    (s.setPalettes t).romOf d = s.romOf d := by cases d <;> rfl
@[simp] theorem State.setPalettes_halted (s : State) (t : PaletteTable) (d : Cpu) :
    (s.setPalettes t).halted d = s.halted d := by cases d <;> rfl

/-! ### `setFrame` -/
@[simp] theorem State.setFrame_config (s : State) (f : Frame) : (s.setFrame f).config = s.config := rfl
@[simp] theorem State.setFrame_rom1 (s : State) (f : Frame) : (s.setFrame f).rom1 = s.rom1 := rfl
@[simp] theorem State.setFrame_rom2 (s : State) (f : Frame) : (s.setFrame f).rom2 = s.rom2 := rfl
@[simp] theorem State.setFrame_rom3 (s : State) (f : Frame) : (s.setFrame f).rom3 = s.rom3 := rfl
@[simp] theorem State.setFrame_mem (s : State) (f : Frame) : (s.setFrame f).mem = s.mem := rfl
@[simp] theorem State.setFrame_ie (s : State) (f : Frame) : (s.setFrame f).ie = s.ie := rfl
@[simp] theorem State.setFrame_halt2 (s : State) (f : Frame) : (s.setFrame f).halt2 = s.halt2 := rfl
@[simp] theorem State.setFrame_halt3 (s : State) (f : Frame) : (s.setFrame f).halt3 = s.halt3 := rfl
@[simp] theorem State.setFrame_port0 (s : State) (f : Frame) : (s.setFrame f).port0 = s.port0 := rfl
@[simp] theorem State.setFrame_csi (s : State) (f : Frame) : (s.setFrame f).csi = s.csi := rfl
@[simp] theorem State.setFrame_fault (s : State) (f : Frame) : (s.setFrame f).fault = s.fault := rfl
@[simp] theorem State.setFrame_colors (s : State) (f : Frame) : (s.setFrame f).colors = s.colors := rfl
@[simp] theorem State.setFrame_palettes (s : State) (f : Frame) : (s.setFrame f).palettes = s.palettes := rfl
@[simp] theorem State.setFrame_frame (s : State) (f : Frame) : (s.setFrame f).frame = f := rfl
@[simp] theorem State.setFrame_diag (s : State) (f : Frame) : (s.setFrame f).diag = s.diag := rfl
@[simp] theorem State.setFrame_irqOut (s : State) (f : Frame) : (s.setFrame f).irqOut = s.irqOut := rfl
@[simp] theorem State.setFrame_frameOut (s : State) (f : Frame) : (s.setFrame f).frameOut = s.frameOut := rfl
@[simp] theorem State.setFrame_engines (s : State) (f : Frame) : (s.setFrame f).engines = s.engines := rfl
@[simp] theorem State.setFrame_requests (s : State) (f : Frame) : (s.setFrame f).requests = s.requests := rfl
@[simp] theorem State.setFrame_reply (s : State) (f : Frame) : (s.setFrame f).reply = s.reply := rfl
@[simp] theorem State.setFrame_romOf (s : State) (f : Frame) (d : Cpu) :
    (s.setFrame f).romOf d = s.romOf d := by cases d <;> rfl
@[simp] theorem State.setFrame_halted (s : State) (f : Frame) (d : Cpu) :
    (s.setFrame f).halted d = s.halted d := by cases d <;> rfl

/-! ### `addDiag` -/
@[simp] theorem State.addDiag_config (s : State) (u : Subsystem) (a : Addr) (v : Byte) :
    (s.addDiag u a v).config = s.config := rfl
@[simp] theorem State.addDiag_rom1 (s : State) (u : Subsystem) (a : Addr) (v : Byte) :
    (s.addDiag u a v).rom1 = s.rom1 := rfl
@[simp] theorem State.addDiag_rom2 (s : State) (u : Subsystem) (a : Addr) (v : Byte) :
    (s.addDiag u a v).rom2 = s.rom2 := rfl
@[simp] theorem State.addDiag_rom3 (s : State) (u : Subsystem) (a : Addr) (v : Byte) :
    (s.addDiag u a v).rom3 = s.rom3 := rfl
@[simp] theorem State.addDiag_mem (s : State) (u : Subsystem) (a : Addr) (v : Byte) :
    (s.addDiag u a v).mem = s.mem := rfl
@[simp] theorem State.addDiag_ie (s : State) (u : Subsystem) (a : Addr) (v : Byte) : (s.addDiag u a v).ie = s.ie := rfl
@[simp] theorem State.addDiag_halt2 (s : State) (u : Subsystem) (a : Addr) (v : Byte) :
    (s.addDiag u a v).halt2 = s.halt2 := rfl
@[simp] theorem State.addDiag_halt3 (s : State) (u : Subsystem) (a : Addr) (v : Byte) :
    (s.addDiag u a v).halt3 = s.halt3 := rfl
@[simp] theorem State.addDiag_port0 (s : State) (u : Subsystem) (a : Addr) (v : Byte) :
    (s.addDiag u a v).port0 = s.port0 := rfl
@[simp] theorem State.addDiag_csi (s : State) (u : Subsystem) (a : Addr) (v : Byte) :
    (s.addDiag u a v).csi = s.csi := rfl
@[simp] theorem State.addDiag_fault (s : State) (u : Subsystem) (a : Addr) (v : Byte) :
    (s.addDiag u a v).fault = s.fault := rfl
@[simp] theorem State.addDiag_colors (s : State) (u : Subsystem) (a : Addr) (v : Byte) :
    (s.addDiag u a v).colors = s.colors := rfl
@[simp] theorem State.addDiag_palettes (s : State) (u : Subsystem) (a : Addr) (v : Byte) :
    (s.addDiag u a v).palettes = s.palettes := rfl
@[simp] theorem State.addDiag_frame (s : State) (u : Subsystem) (a : Addr) (v : Byte) :
    (s.addDiag u a v).frame = s.frame := rfl
@[simp] theorem State.addDiag_diag (s : State) (u : Subsystem) (a : Addr) (v : Byte) :
    (s.addDiag u a v).diag = s.diag ++ [{ subsystem := u, addr := a, value := v }] := rfl
@[simp] theorem State.addDiag_irqOut (s : State) (u : Subsystem) (a : Addr) (v : Byte) :
    (s.addDiag u a v).irqOut = s.irqOut := rfl
@[simp] theorem State.addDiag_frameOut (s : State) (u : Subsystem) (a : Addr) (v : Byte) :
    (s.addDiag u a v).frameOut = s.frameOut := rfl
@[simp] theorem State.addDiag_engines (s : State) (u : Subsystem) (a : Addr) (v : Byte) :
    (s.addDiag u a v).engines = s.engines := rfl
@[simp] theorem State.addDiag_requests (s : State) (u : Subsystem) (a : Addr) (v : Byte) :
    (s.addDiag u a v).requests = s.requests := rfl
@[simp] theorem State.addDiag_reply (s : State) (u : Subsystem) (a : Addr) (v : Byte) :
    (s.addDiag u a v).reply = s.reply := rfl
@[simp] theorem State.addDiag_romOf (s : State) (u : Subsystem) (a : Addr) (v : Byte) (d : Cpu) :
    (s.addDiag u a v).romOf d = s.romOf d := by cases d <;> rfl
@[simp] theorem State.addDiag_halted (s : State) (u : Subsystem) (a : Addr) (v : Byte) (d : Cpu) :
    (s.addDiag u a v).halted d = s.halted d := by cases d <;> rfl

/-! ### `addIrq` -/
@[simp] theorem State.addIrq_config (s : State) (c : Cpu) (inj : Injection) : (s.addIrq c inj).config = s.config := rfl
@[simp] theorem State.addIrq_rom1 (s : State) (c : Cpu) (inj : Injection) : (s.addIrq c inj).rom1 = s.rom1 := rfl
@[simp] theorem State.addIrq_rom2 (s : State) (c : Cpu) (inj : Injection) : (s.addIrq c inj).rom2 = s.rom2 := rfl
@[simp] theorem State.addIrq_rom3 (s : State) (c : Cpu) (inj : Injection) : (s.addIrq c inj).rom3 = s.rom3 := rfl
@[simp] theorem State.addIrq_mem (s : State) (c : Cpu) (inj : Injection) : (s.addIrq c inj).mem = s.mem := rfl
@[simp] theorem State.addIrq_ie (s : State) (c : Cpu) (inj : Injection) : (s.addIrq c inj).ie = s.ie := rfl
@[simp] theorem State.addIrq_halt2 (s : State) (c : Cpu) (inj : Injection) : (s.addIrq c inj).halt2 = s.halt2 := rfl
@[simp] theorem State.addIrq_halt3 (s : State) (c : Cpu) (inj : Injection) : (s.addIrq c inj).halt3 = s.halt3 := rfl
@[simp] theorem State.addIrq_port0 (s : State) (c : Cpu) (inj : Injection) : (s.addIrq c inj).port0 = s.port0 := rfl
@[simp] theorem State.addIrq_csi (s : State) (c : Cpu) (inj : Injection) : (s.addIrq c inj).csi = s.csi := rfl
@[simp] theorem State.addIrq_fault (s : State) (c : Cpu) (inj : Injection) : (s.addIrq c inj).fault = s.fault := rfl
@[simp] theorem State.addIrq_colors (s : State) (c : Cpu) (inj : Injection) : (s.addIrq c inj).colors = s.colors := rfl
@[simp] theorem State.addIrq_palettes (s : State) (c : Cpu) (inj : Injection) :
    (s.addIrq c inj).palettes = s.palettes := rfl
@[simp] theorem State.addIrq_frame (s : State) (c : Cpu) (inj : Injection) : (s.addIrq c inj).frame = s.frame := rfl
@[simp] theorem State.addIrq_diag (s : State) (c : Cpu) (inj : Injection) : (s.addIrq c inj).diag = s.diag := rfl
@[simp] theorem State.addIrq_irqOut (s : State) (c : Cpu) (inj : Injection) :
    (s.addIrq c inj).irqOut = s.irqOut ++ [(c, inj)] := rfl
@[simp] theorem State.addIrq_frameOut (s : State) (c : Cpu) (inj : Injection) :
    (s.addIrq c inj).frameOut = s.frameOut := rfl
@[simp] theorem State.addIrq_engines (s : State) (c : Cpu) (inj : Injection) :
    (s.addIrq c inj).engines = s.engines := rfl
@[simp] theorem State.addIrq_requests (s : State) (c : Cpu) (inj : Injection) :
    (s.addIrq c inj).requests = s.requests := rfl
@[simp] theorem State.addIrq_reply (s : State) (c : Cpu) (inj : Injection) : (s.addIrq c inj).reply = s.reply := rfl
@[simp] theorem State.addIrq_romOf (s : State) (c : Cpu) (inj : Injection) (d : Cpu) :
    (s.addIrq c inj).romOf d = s.romOf d := by cases d <;> rfl
@[simp] theorem State.addIrq_halted (s : State) (c : Cpu) (inj : Injection) (d : Cpu) :
    (s.addIrq c inj).halted d = s.halted d := by cases d <;> rfl

/-! ### `addFrame` -/
@[simp] theorem State.addFrame_config (s : State) (f : Frame) : (s.addFrame f).config = s.config := rfl
@[simp] theorem State.addFrame_rom1 (s : State) (f : Frame) : (s.addFrame f).rom1 = s.rom1 := rfl
@[simp] theorem State.addFrame_rom2 (s : State) (f : Frame) : (s.addFrame f).rom2 = s.rom2 := rfl
@[simp] theorem State.addFrame_rom3 (s : State) (f : Frame) : (s.addFrame f).rom3 = s.rom3 := rfl
@[simp] theorem State.addFrame_mem (s : State) (f : Frame) : (s.addFrame f).mem = s.mem := rfl
@[simp] theorem State.addFrame_ie (s : State) (f : Frame) : (s.addFrame f).ie = s.ie := rfl
@[simp] theorem State.addFrame_halt2 (s : State) (f : Frame) : (s.addFrame f).halt2 = s.halt2 := rfl
@[simp] theorem State.addFrame_halt3 (s : State) (f : Frame) : (s.addFrame f).halt3 = s.halt3 := rfl
@[simp] theorem State.addFrame_port0 (s : State) (f : Frame) : (s.addFrame f).port0 = s.port0 := rfl
@[simp] theorem State.addFrame_csi (s : State) (f : Frame) : (s.addFrame f).csi = s.csi := rfl
@[simp] theorem State.addFrame_fault (s : State) (f : Frame) : (s.addFrame f).fault = s.fault := rfl
@[simp] theorem State.addFrame_colors (s : State) (f : Frame) : (s.addFrame f).colors = s.colors := rfl
@[simp] theorem State.addFrame_palettes (s : State) (f : Frame) : (s.addFrame f).palettes = s.palettes := rfl
@[simp] theorem State.addFrame_frame (s : State) (f : Frame) : (s.addFrame f).frame = s.frame := rfl
@[simp] theorem State.addFrame_diag (s : State) (f : Frame) : (s.addFrame f).diag = s.diag := rfl
@[simp] theorem State.addFrame_irqOut (s : State) (f : Frame) : (s.addFrame f).irqOut = s.irqOut := rfl
@[simp] theorem State.addFrame_frameOut (s : State) (f : Frame) : (s.addFrame f).frameOut = s.frameOut ++ [f] := rfl
@[simp] theorem State.addFrame_engines (s : State) (f : Frame) : (s.addFrame f).engines = s.engines := rfl
@[simp] theorem State.addFrame_requests (s : State) (f : Frame) : (s.addFrame f).requests = s.requests := rfl
@[simp] theorem State.addFrame_reply (s : State) (f : Frame) : (s.addFrame f).reply = s.reply := rfl
@[simp] theorem State.addFrame_romOf (s : State) (f : Frame) (d : Cpu) :
    (s.addFrame f).romOf d = s.romOf d := by cases d <;> rfl
@[simp] theorem State.addFrame_halted (s : State) (f : Frame) (d : Cpu) :
    (s.addFrame f).halted d = s.halted d := by cases d <;> rfl

/-! ### `setEngine` -/
@[simp] theorem State.setEngine_config (s : State) (c : Cpu) (e : Engine) : (s.setEngine c e).config = s.config := rfl
@[simp] theorem State.setEngine_rom1 (s : State) (c : Cpu) (e : Engine) : (s.setEngine c e).rom1 = s.rom1 := rfl
@[simp] theorem State.setEngine_rom2 (s : State) (c : Cpu) (e : Engine) : (s.setEngine c e).rom2 = s.rom2 := rfl
@[simp] theorem State.setEngine_rom3 (s : State) (c : Cpu) (e : Engine) : (s.setEngine c e).rom3 = s.rom3 := rfl
@[simp] theorem State.setEngine_mem (s : State) (c : Cpu) (e : Engine) : (s.setEngine c e).mem = s.mem := rfl
@[simp] theorem State.setEngine_ie (s : State) (c : Cpu) (e : Engine) : (s.setEngine c e).ie = s.ie := rfl
@[simp] theorem State.setEngine_halt2 (s : State) (c : Cpu) (e : Engine) : (s.setEngine c e).halt2 = s.halt2 := rfl
@[simp] theorem State.setEngine_halt3 (s : State) (c : Cpu) (e : Engine) : (s.setEngine c e).halt3 = s.halt3 := rfl
@[simp] theorem State.setEngine_port0 (s : State) (c : Cpu) (e : Engine) : (s.setEngine c e).port0 = s.port0 := rfl
@[simp] theorem State.setEngine_csi (s : State) (c : Cpu) (e : Engine) : (s.setEngine c e).csi = s.csi := rfl
@[simp] theorem State.setEngine_fault (s : State) (c : Cpu) (e : Engine) : (s.setEngine c e).fault = s.fault := rfl
@[simp] theorem State.setEngine_colors (s : State) (c : Cpu) (e : Engine) : (s.setEngine c e).colors = s.colors := rfl
@[simp] theorem State.setEngine_palettes (s : State) (c : Cpu) (e : Engine) :
    (s.setEngine c e).palettes = s.palettes := rfl
@[simp] theorem State.setEngine_frame (s : State) (c : Cpu) (e : Engine) : (s.setEngine c e).frame = s.frame := rfl
@[simp] theorem State.setEngine_diag (s : State) (c : Cpu) (e : Engine) : (s.setEngine c e).diag = s.diag := rfl
@[simp] theorem State.setEngine_irqOut (s : State) (c : Cpu) (e : Engine) : (s.setEngine c e).irqOut = s.irqOut := rfl
@[simp] theorem State.setEngine_frameOut (s : State) (c : Cpu) (e : Engine) :
    (s.setEngine c e).frameOut = s.frameOut := rfl
@[simp] theorem State.setEngine_engines (s : State) (c : Cpu) (e : Engine) :
    (s.setEngine c e).engines = s.engines.set c e := rfl
@[simp] theorem State.setEngine_requests (s : State) (c : Cpu) (e : Engine) :
    (s.setEngine c e).requests = s.requests := rfl
@[simp] theorem State.setEngine_reply (s : State) (c : Cpu) (e : Engine) : (s.setEngine c e).reply = s.reply := rfl
@[simp] theorem State.setEngine_romOf (s : State) (c : Cpu) (e : Engine) (d : Cpu) :
    (s.setEngine c e).romOf d = s.romOf d := by cases d <;> rfl
@[simp] theorem State.setEngine_halted (s : State) (c : Cpu) (e : Engine) (d : Cpu) :
    (s.setEngine c e).halted d = s.halted d := by cases d <;> rfl

/-! ### `setRequests` -/
@[simp] theorem State.setRequests_config (s : State) (l : List Request) : (s.setRequests l).config = s.config := rfl
@[simp] theorem State.setRequests_rom1 (s : State) (l : List Request) : (s.setRequests l).rom1 = s.rom1 := rfl
@[simp] theorem State.setRequests_rom2 (s : State) (l : List Request) : (s.setRequests l).rom2 = s.rom2 := rfl
@[simp] theorem State.setRequests_rom3 (s : State) (l : List Request) : (s.setRequests l).rom3 = s.rom3 := rfl
@[simp] theorem State.setRequests_mem (s : State) (l : List Request) : (s.setRequests l).mem = s.mem := rfl
@[simp] theorem State.setRequests_ie (s : State) (l : List Request) : (s.setRequests l).ie = s.ie := rfl
@[simp] theorem State.setRequests_halt2 (s : State) (l : List Request) : (s.setRequests l).halt2 = s.halt2 := rfl
@[simp] theorem State.setRequests_halt3 (s : State) (l : List Request) : (s.setRequests l).halt3 = s.halt3 := rfl
@[simp] theorem State.setRequests_port0 (s : State) (l : List Request) : (s.setRequests l).port0 = s.port0 := rfl
@[simp] theorem State.setRequests_csi (s : State) (l : List Request) : (s.setRequests l).csi = s.csi := rfl
@[simp] theorem State.setRequests_fault (s : State) (l : List Request) : (s.setRequests l).fault = s.fault := rfl
@[simp] theorem State.setRequests_colors (s : State) (l : List Request) : (s.setRequests l).colors = s.colors := rfl
@[simp] theorem State.setRequests_palettes (s : State) (l : List Request) :
    (s.setRequests l).palettes = s.palettes := rfl
@[simp] theorem State.setRequests_frame (s : State) (l : List Request) : (s.setRequests l).frame = s.frame := rfl
@[simp] theorem State.setRequests_diag (s : State) (l : List Request) : (s.setRequests l).diag = s.diag := rfl
@[simp] theorem State.setRequests_irqOut (s : State) (l : List Request) : (s.setRequests l).irqOut = s.irqOut := rfl
@[simp] theorem State.setRequests_frameOut (s : State) (l : List Request) :
    (s.setRequests l).frameOut = s.frameOut := rfl
@[simp] theorem State.setRequests_engines (s : State) (l : List Request) : (s.setRequests l).engines = s.engines := rfl
@[simp] theorem State.setRequests_requests (s : State) (l : List Request) : (s.setRequests l).requests = l := rfl
@[simp] theorem State.setRequests_reply (s : State) (l : List Request) : (s.setRequests l).reply = s.reply := rfl
@[simp] theorem State.setRequests_romOf (s : State) (l : List Request) (d : Cpu) :
    (s.setRequests l).romOf d = s.romOf d := by cases d <;> rfl
@[simp] theorem State.setRequests_halted (s : State) (l : List Request) (d : Cpu) :
    (s.setRequests l).halted d = s.halted d := by cases d <;> rfl

/-! ### `setReply` -/
@[simp] theorem State.setReply_config (s : State) (r : Reply) : (s.setReply r).config = s.config := rfl
@[simp] theorem State.setReply_rom1 (s : State) (r : Reply) : (s.setReply r).rom1 = s.rom1 := rfl
@[simp] theorem State.setReply_rom2 (s : State) (r : Reply) : (s.setReply r).rom2 = s.rom2 := rfl
@[simp] theorem State.setReply_rom3 (s : State) (r : Reply) : (s.setReply r).rom3 = s.rom3 := rfl
@[simp] theorem State.setReply_mem (s : State) (r : Reply) : (s.setReply r).mem = s.mem := rfl
@[simp] theorem State.setReply_ie (s : State) (r : Reply) : (s.setReply r).ie = s.ie := rfl
@[simp] theorem State.setReply_halt2 (s : State) (r : Reply) : (s.setReply r).halt2 = s.halt2 := rfl
@[simp] theorem State.setReply_halt3 (s : State) (r : Reply) : (s.setReply r).halt3 = s.halt3 := rfl
@[simp] theorem State.setReply_port0 (s : State) (r : Reply) : (s.setReply r).port0 = s.port0 := rfl
@[simp] theorem State.setReply_csi (s : State) (r : Reply) : (s.setReply r).csi = s.csi := rfl
@[simp] theorem State.setReply_fault (s : State) (r : Reply) : (s.setReply r).fault = s.fault := rfl
@[simp] theorem State.setReply_colors (s : State) (r : Reply) : (s.setReply r).colors = s.colors := rfl
@[simp] theorem State.setReply_palettes (s : State) (r : Reply) : (s.setReply r).palettes = s.palettes := rfl
@[simp] theorem State.setReply_frame (s : State) (r : Reply) : (s.setReply r).frame = s.frame := rfl
@[simp] theorem State.setReply_diag (s : State) (r : Reply) : (s.setReply r).diag = s.diag := rfl
@[simp] theorem State.setReply_irqOut (s : State) (r : Reply) : (s.setReply r).irqOut = s.irqOut := rfl
@[simp] theorem State.setReply_frameOut (s : State) (r : Reply) : (s.setReply r).frameOut = s.frameOut := rfl
@[simp] theorem State.setReply_engines (s : State) (r : Reply) : (s.setReply r).engines = s.engines := rfl
@[simp] theorem State.setReply_requests (s : State) (r : Reply) : (s.setReply r).requests = s.requests := rfl
@[simp] theorem State.setReply_reply (s : State) (r : Reply) : (s.setReply r).reply = r := rfl
@[simp] theorem State.setReply_romOf (s : State) (r : Reply) (d : Cpu) :
    (s.setReply r).romOf d = s.romOf d := by cases d <;> rfl
@[simp] theorem State.setReply_halted (s : State) (r : Reply) (d : Cpu) :
    (s.setReply r).halted d = s.halted d := by cases d <;> rfl

/-! ### `romOf` and `halted` -/
@[simp] theorem State.setRom_romOf_same (s : State) (c : Cpu) (m : Memory) : (s.setRom c m).romOf c = m := by
  cases c <;> rfl
@[simp] theorem State.setRom_romOf_other (s : State) {c d : Cpu} (m : Memory) (h : d ≠ c) :
    (s.setRom c m).romOf d = s.romOf d := by cases c <;> cases d <;> first | rfl | exact absurd rfl h
@[simp] theorem State.setRom_halted (s : State) (c : Cpu) (m : Memory) (d : Cpu) :
    (s.setRom c m).halted d = s.halted d := by cases c <;> cases d <;> rfl
@[simp] theorem State.romOf_cpu1 (s : State) : s.romOf .cpu1 = s.rom1 := rfl
@[simp] theorem State.romOf_cpu2 (s : State) : s.romOf .cpu2 = s.rom2 := rfl
@[simp] theorem State.romOf_cpu3 (s : State) : s.romOf .cpu3 = s.rom3 := rfl
@[simp] theorem State.halted_cpu1 (s : State) : s.halted .cpu1 = false := rfl
@[simp] theorem State.halted_cpu2 (s : State) : s.halted .cpu2 = s.halt2 := rfl
@[simp] theorem State.halted_cpu3 (s : State) : s.halted .cpu3 = s.halt3 := rfl

/-! ### Results -/
@[simp] theorem Ran.bind_done {α β : Type} (v : α) (s : State) (f : α → State → Ran β) : (Ran.done v s).bind f = f v s := rfl
@[simp] theorem Ran.bind_raised {α β : Type} (s : State) (f : α → State → Ran β) : (Ran.raised s).bind f = .raised s := rfl
@[simp] theorem Ran.map_done {α β : Type} (f : α → β) (v : α) (s : State) : (Ran.done v s).map f = .done (f v) s := rfl
@[simp] theorem Ran.map_raised {α β : Type} (f : α → β) (s : State) : (Ran.raised s).map f = .raised s := rfl
@[simp] theorem Ran.state_done {α : Type} (v : α) (s : State) : (Ran.done v s).state = s := rfl
@[simp] theorem Ran.state_raised {α : Type} (s : State) : (Ran.raised s : Ran α).state = s := rfl
@[simp] theorem Ran.state_map {α β : Type} (f : α → β) (r : Ran α) : (r.map f).state = r.state := by cases r <;> rfl
@[simp] theorem Ran.outcome_done (v : Reply) (s : State) : (Ran.done v s).outcome = .next (s.setReply v) := rfl
@[simp] theorem Ran.outcome_raised (s : State) : (Ran.raised s).outcome = .next (s.setReply .nothing) := rfl

theorem raise_of_ready {α : Type} (k : FaultKind) {s : State} (h : s.fault = none) :
    (raise k s : Ran α) = .raised (s.setFault (some k)) := by simp [raise, h]

/-- What `issue` answers on a machine that can run and a term that is an operation. -/
theorem issue_ready {i : Instr} {s : State} (body : State → Ran Reply) (h : s.fault = none) (hi : i.wf = true) :
    issue i s body = (body s).outcome := by simp [issue, h, hi]

/-- What `issue` answers once a fault is recorded. -/
theorem issue_stopped {i : Instr} {s : State} {k : FaultKind} (body : State → Ran Reply) (h : s.fault = some k) :
    issue i s body = .fault (.stopped k) := by simp [issue, h]

/-- Everything `issue` can do when it answers a next state. -/
theorem issue_next {i : Instr} {s t : State} {body : State → Ran Reply} (h : issue i s body = .next t) :
    s.fault = none ∧ i.wf = true ∧ (body s).outcome = .next t := by
  unfold issue at h
  split at h
  · cases h
  · split at h
    · exact ⟨‹_›, ‹_›, h⟩
    · cases h

/-- A result that answers a next state does so with the state it ends in and some reply. -/
theorem Ran.outcome_next {r : Ran Reply} {t : State} (h : r.outcome = .next t) : ∃ v, t = r.state.setReply v := by
  cases r with
  | done v s => exact ⟨v, by simpa using h.symm⟩
  | raised s => exact ⟨.nothing, by simpa using h.symm⟩

end Machine
end Sys2Proof
end

