-- ==== Sys2Proof/Laws/Effects.lean ====
section
/-!
SUPPORT. Once and for all, what an operation can do to the state: the elementary effects of a transaction
(`BusEffect`), those of the loop (`Effect`), and for each shared operation the lemma that says it does nothing else.
Later proofs about every operation go by these few cases.
-/
namespace Sys2Proof.Machine

/-! ### The decode classes and their addresses -/

theorem inRange_iff {lo hi : Nat} {a : Addr} : inRange lo hi a = true ↔ lo ≤ a.toNat ∧ a.toNat ≤ hi := by
  simp [inRange]

theorem inRamWindow_iff {a : Addr} : inRamWindow a = true ↔
    (0x8000 ≤ a.toNat ∧ a.toNat ≤ 0x8BFF) ∨ (0x9000 ≤ a.toNat ∧ a.toNat ≤ 0x93FF) ∨
    (0x9800 ≤ a.toNat ∧ a.toNat ≤ 0x9BFF) := by
  simp only [inRamWindow, Bool.or_eq_true, inRange_iff]
  omega

theorem ramWindowBits_iff {a : Addr} : ramWindowBits a = true ↔ inRamWindow a = true := by
  have := a.isLt
  rw [inRamWindow_iff]
  simp only [ramWindowBits, Bool.and_eq_true, Bool.or_eq_true, beq_iff_eq, bne_iff_ne, ne_eq]
  omega

/-- A write is to a cell of `c`'s code ROM exactly where `c`'s array has one (R95). -/
theorem writeClass_rom_iff {c : Cpu} {a : Addr} : writeClass c a = .rom ↔ inRomArray c a = true := by
  unfold writeClass
  split
  · cases c <;> simp only [romWriteClass, inRomArray, inRange_iff] <;> (try split) <;>
      first | exact ⟨fun _ => by omega, fun _ => rfl⟩ | exact ⟨fun h => (nomatch h), fun h => absurd h (by omega)⟩ |
        (simp only [true_iff]; omega)
  · have : inRomArray c a = false := by
      rw [Bool.eq_false_iff]
      cases c <;> simp only [inRomArray, ne_eq, inRange_iff] <;> omega
    rw [this]
    refine ⟨fun h => ?_, fun h => (nomatch h)⟩
    rw [sharedWriteClass] at h
    iterate 11 (split at h; · cases h)
    cases h

theorem sharedReadClass_ram {a : Addr} (h : ramWindowBits a = true) : sharedReadClass a = .ram := by
  have := inRamWindow_iff.1 (ramWindowBits_iff.1 h)
  rw [sharedReadClass, if_neg (by omega), if_pos h]

theorem sharedWriteClass_ram {a : Addr} (h : ramWindowBits a = true) : sharedWriteClass a = .ram := by
  have := inRamWindow_iff.1 (ramWindowBits_iff.1 h)
  rw [sharedWriteClass, if_neg (by omega), if_neg (by omega), if_neg (by omega), if_neg (by omega),
    if_neg (by omega), if_pos h]

/-- A byte read is of the shared array exactly in the four windows (R120, R123). -/
theorem readClass_ram_iff {c : Cpu} {a : Addr} : readClass c a = .ram ↔ inRamWindow a = true := by
  rw [← ramWindowBits_iff]
  constructor
  · intro h
    by_contra hb
    unfold readClass at h
    split at h
    · cases c <;> simp only [romReadClass] at h <;> (try split at h) <;> cases h
    · rw [sharedReadClass] at h
      split_ifs at h
  · intro h
    have := inRamWindow_iff.1 (ramWindowBits_iff.1 h)
    rw [readClass, if_neg (by omega), sharedReadClass_ram h]

/-- A byte write is to the shared array exactly in the four windows (R121, R123). -/
theorem writeClass_ram_iff {c : Cpu} {a : Addr} : writeClass c a = .ram ↔ inRamWindow a = true := by
  rw [← ramWindowBits_iff]
  constructor
  · intro h
    by_contra hb
    unfold writeClass at h
    split at h
    · cases c <;> simp only [romWriteClass] at h <;> (try split at h) <;> cases h
    · rw [sharedWriteClass] at h
      split_ifs at h
  · intro h
    have := inRamWindow_iff.1 (ramWindowBits_iff.1 h)
    rw [writeClass, if_neg (by omega), sharedWriteClass_ram h]

/-- Only CPU3 reads CPU3's hole (R94). -/
theorem cpu_of_rom3Hole {c : Cpu} {a : Addr} (h : readClass c a = .rom3Hole) : c = .cpu3 := by
  unfold readClass at h
  split at h
  · cases c <;> simp only [romReadClass] at h <;> (try split at h) <;> first | rfl | cases h
  · rw [sharedReadClass] at h
    split_ifs at h

/-! ### The effects -/

/-- One elementary effect of a bus or port transaction, or of an engine on its own flag. -/
inductive BusEffect : State → State → Prop where
  | log (s : State) (u : Subsystem) (a : Addr) (v : Byte) : BusEffect s (s.addDiag u a v)
  | storeRam (s : State) (a : Addr) (v : Byte) (h : inRamWindow a = true) :
      BusEffect s (s.setMem (s.mem.write a.toNat v))
  | storeRom (s : State) (c : Cpu) (a : Addr) (v : Byte) (h : inRomArray c a = true)
      (hw : s.config.writableRom = true) : BusEffect s (s.setRom c ((s.romOf c).write a.toNat v))
  | enable (s : State) (c : Cpu) (b : Bool) : BusEffect s (s.setIe c b)
  | halts (s : State) (b : Bool) : BusEffect s ((s.setHalt2 b).setHalt3 b)
  | latchPort (s : State) (v : Byte) : BusEffect s (s.setPort0 v)
  | record (s : State) (k : FaultKind) : BusEffect s (s.setFault (some (s.fault.getD k)))

/-- One elementary effect of any operation but `reset()`. -/
inductive Effect : State → State → Prop where
  | bus {s t : State} (h : BusEffect s t) : Effect s t
  | engine (s : State) (c : Cpu) (e : Engine) : Effect s (s.setEngine c e)
  | irq (s : State) (c : Cpu) (inj : Injection) : Effect s (s.addIrq c inj)
  | compose (s : State) : Effect s (s.setFrame (composedFrame s))
  | deliver (s : State) : Effect s (s.addFrame s.frame)
  | count (s : State) (n : Nat) : Effect s (s.setCsi n)
  | release2 (s : State) : Effect s (s.setHalt2 false)
  | release3 (s : State) : Effect s (s.setHalt3 false)

/-- Finitely many effects of transactions. -/
abbrev BusEffects : State → State → Prop := Relation.ReflTransGen BusEffect

/-- Finitely many effects. -/
abbrev Effects : State → State → Prop := Relation.ReflTransGen Effect

theorem BusEffects.one {s t : State} (h : BusEffect s t) : BusEffects s t := Relation.ReflTransGen.single h

theorem Effects.one {s t : State} (h : Effect s t) : Effects s t := Relation.ReflTransGen.single h

theorem BusEffects.effects {s t : State} (h : BusEffects s t) : Effects s t := by
  induction h with
  | refl => exact .refl
  | tail _ hb ih => exact ih.tail (.bus hb)

/-- What no transaction changes. -/
structure BusFrame (s t : State) : Prop where
  config : t.config = s.config
  csi : t.csi = s.csi
  colors : t.colors = s.colors
  palettes : t.palettes = s.palettes
  frame : t.frame = s.frame
  irqOut : t.irqOut = s.irqOut
  frameOut : t.frameOut = s.frameOut
  engines : t.engines = s.engines
  requests : t.requests = s.requests
  reply : t.reply = s.reply

theorem BusEffect.frame {s t : State} (h : BusEffect s t) : BusFrame s t := by
  cases h <;> constructor <;> simp

theorem BusEffects.frame {s t : State} (h : BusEffects s t) : BusFrame s t := by
  induction h with
  | refl => constructor <;> rfl
  | tail _ hb ih =>
    have f := hb.frame
    exact ⟨f.config.trans ih.config, f.csi.trans ih.csi, f.colors.trans ih.colors, f.palettes.trans ih.palettes,
      f.frame.trans ih.frame, f.irqOut.trans ih.irqOut, f.frameOut.trans ih.frameOut, f.engines.trans ih.engines,
      f.requests.trans ih.requests, f.reply.trans ih.reply⟩

/-- What no operation but `reset()` changes, and the streams that only grow. -/
structure OpFrame (s t : State) : Prop where
  config : t.config = s.config
  colors : t.colors = s.colors
  palettes : t.palettes = s.palettes
  requests : t.requests = s.requests
  diag : s.diag <+: t.diag
  irqOut : s.irqOut <+: t.irqOut
  frameOut : s.frameOut <+: t.frameOut

theorem OpFrame.refl (s : State) : OpFrame s s :=
  ⟨rfl, rfl, rfl, rfl, List.prefix_rfl, List.prefix_rfl, List.prefix_rfl⟩

theorem OpFrame.trans {s t u : State} (h : OpFrame s t) (k : OpFrame t u) : OpFrame s u :=
  ⟨k.config.trans h.config, k.colors.trans h.colors, k.palettes.trans h.palettes, k.requests.trans h.requests,
    h.diag.trans k.diag, h.irqOut.trans k.irqOut, h.frameOut.trans k.frameOut⟩

theorem Effect.frame {s t : State} (h : Effect s t) : OpFrame s t := by
  cases h with
  | bus h => cases h <;> constructor <;> simp
  | _ => constructor <;> simp

theorem Effects.frame {s t : State} (h : Effects s t) : OpFrame s t := by
  induction h with
  | refl => exact .refl _
  | tail _ hb ih => exact ih.trans hb.frame

/-! ### Byte and port accesses -/

/-- All that a byte read can do. -/
theorem read8_cases (c : Cpu) (a : Addr) (s : State) :
    (∃ v, read8 c a s = .done v s) ∨ (∃ u v, read8 c a s = .done v (s.addDiag u a v)) ∨
    read8 c a s = raise (.unmappedAddress c a .read) s := by
  unfold read8
  split
  · exact .inl ⟨_, rfl⟩
  · exact .inl ⟨_, rfl⟩
  · exact .inr (.inl ⟨_, _, rfl⟩)
  · exact .inl ⟨_, rfl⟩
  · rename_i h
    obtain rfl := cpu_of_rom3Hole h
    exact .inr (.inr rfl)
  · exact .inl ⟨_, rfl⟩
  · exact .inl ⟨_, rfl⟩
  · exact .inr (.inl ⟨_, _, rfl⟩)
  · exact .inr (.inr rfl)

/-- All that a byte write can do: one effect, or a fault. -/
theorem write8_cases (c : Cpu) (a : Addr) (v : Byte) (s : State) :
    write8 c a v s = .done () s ∨ (∃ t, BusEffect s t ∧ t.fault = s.fault ∧ write8 c a v s = .done () t) ∨
    ∃ k, write8 c a v s = raise k s := by
  unfold write8
  split
  · rename_i h
    unfold romWrite
    split
    · rename_i hw
      exact .inr (.inl ⟨_, .storeRom s c a v (writeClass_rom_iff.1 h) hw, by simp, rfl⟩)
    · exact .inr (.inr ⟨_, rfl⟩)
  · unfold romHoleWrite
    split <;> exact .inr (.inr ⟨_, rfl⟩)
  · exact .inr (.inl ⟨_, .enable s .cpu1 _, by simp, rfl⟩)
  · exact .inr (.inl ⟨_, .enable s .cpu2 _, by simp, rfl⟩)
  · exact .inr (.inl ⟨_, .enable s .cpu3 _, by simp, rfl⟩)
  · exact .inr (.inl ⟨_, .halts s _, by simp, rfl⟩)
  · exact .inr (.inl ⟨_, .log s _ _ _, by simp, rfl⟩)
  · rename_i h
    exact .inr (.inl ⟨_, .storeRam s a v (writeClass_ram_iff.1 h), by simp, rfl⟩)
  · exact .inr (.inl ⟨_, .log s _ _ _, by simp, rfl⟩)
  · exact .inr (.inl ⟨_, .log s _ _ _, by simp, rfl⟩)
  · exact .inr (.inl ⟨_, .log s _ _ _, by simp, rfl⟩)
  · exact .inr (.inl ⟨_, .log s _ _ _, by simp, rfl⟩)
  · exact .inl rfl
  · exact .inr (.inr ⟨_, rfl⟩)

/-- How a result relates to the state it starts in: it went through effects of transactions, it keeps the `fault`
cell when it is done, and it has recorded a fault when it is raised. -/
structure BusRun {α : Type} (s : State) (r : Ran α) : Prop where
  effects : BusEffects s r.state
  done : ∀ v t, r = .done v t → t.fault = s.fault
  raised : ∀ t, r = .raised t → t.fault ≠ none

theorem BusRun.of_done {α : Type} {s t : State} (v : α) (h : BusEffects s t) (hf : t.fault = s.fault) :
    BusRun s (.done v t) :=
  ⟨h, fun w u e => by cases e; exact hf, fun _ e => (nomatch e)⟩

theorem BusRun.of_raise {α : Type} (s : State) (k : FaultKind) : BusRun s (raise k s : Ran α) :=
  ⟨.one (.record s k), fun _ _ h => (nomatch h), fun t h => by cases h; simp⟩

theorem BusRun.bind {α β : Type} {s : State} {r : Ran α} {f : α → State → Ran β} (h : BusRun s r)
    (hf : ∀ v t, BusRun t (f v t)) : BusRun s (r.bind f) := by
  cases r with
  | done v t =>
    have k := hf v t
    exact ⟨h.effects.trans k.effects, fun w u e => (k.done w u e).trans (h.done v t rfl), k.raised⟩
  | raised t => exact ⟨h.effects, fun _ _ e => (nomatch e), fun u e => h.raised u (by cases e; rfl)⟩

theorem BusRun.map {α β : Type} {s : State} {r : Ran α} (g : α → β) (h : BusRun s r) : BusRun s (r.map g) := by
  cases r with
  | done v t => exact .of_done (g v) h.effects (h.done v t rfl)
  | raised t => exact ⟨h.effects, fun _ _ e => (nomatch e), fun u e => h.raised u (by cases e; rfl)⟩

theorem BusRun.after {α : Type} {s t : State} {r : Ran α} (e : BusEffect s t) (hf : t.fault = s.fault)
    (h : BusRun t r) : BusRun s r :=
  ⟨(BusEffects.one e).trans h.effects, fun v u k => (h.done v u k).trans hf, h.raised⟩

theorem read8_run (c : Cpu) (a : Addr) (s : State) : BusRun s (read8 c a s) := by
  rcases read8_cases c a s with ⟨v, h⟩ | ⟨u, v, h⟩ | h <;> rw [h]
  · exact .of_done v .refl rfl
  · exact .of_done v (.one (.log s u a v)) (by simp)
  · exact .of_raise s _

theorem write8_run (c : Cpu) (a : Addr) (v : Byte) (s : State) : BusRun s (write8 c a v s) := by
  rcases write8_cases c a v s with h | ⟨t, e, hf, h⟩ | ⟨k, h⟩ <;> rw [h]
  · exact .of_done () .refl rfl
  · exact .of_done () (.one e) hf
  · exact .of_raise s k

theorem readPair_run (c : Cpu) (a : Addr) (s : State) : BusRun s (readPair c a s) :=
  (read8_run c a s).bind fun _ t => (read8_run c (nextAddr a) t).map _

theorem writePair_run (c : Cpu) (a : Addr) (v : Half) (s : State) : BusRun s (writePair c a v s) :=
  (write8_run c a (loByte v) s).bind fun _ t => write8_run c (nextAddr a) (hiByte v) t

theorem portRead_run (p : Byte) (s : State) : BusRun s (portRead p s) :=
  .of_done 0x00 (.one (.log s .port (portAddr p) 0x00)) (by simp)

theorem portWrite_run (c : Cpu) (p v : Byte) (s : State) : BusRun s (portWrite c p v s) := by
  unfold portWrite
  split
  · exact .of_done () (.one (.latchPort s v)) (by simp)
  · exact .of_done () (.one (.log s .port (portAddr p) v)) (by simp)

/-! ### The engines -/

/-- Whatever an engine does, it acts on the block through transactions and its own flag alone (R170, R172). -/
theorem runProg_run (c : Cpu) (p : EngineProg) (s : State) : BusRun s (runProg c p s) := by
  induction p generalizing s with
  | finish n k => exact .of_done (n, k) .refl rfl
  | deviceFault => exact .of_raise s _
  | setIe b rest ih => exact (ih (s.setIe c b)).after (.enable s c b) (by simp)
  | getIe k ih => exact ih (s.ie.get c) s
  | read8 a k ih => exact (read8_run c a s).bind fun v t => ih v t
  | write8 a v rest ih => exact (write8_run c a v s).bind fun _ t => ih t
  | read16 a k ih => exact (readPair_run c a s).bind fun v t => ih v t
  | write16 a v rest ih => exact (writePair_run c a v s).bind fun _ t => ih t
  | portRead p k ih => exact (portRead_run p s).bind fun v t => ih v t
  | portWrite p v rest ih => exact (portWrite_run c p v s).bind fun _ t => ih t

/-! ### The loop -/

/-- The same for the operations of the loop. -/
structure OpRun {α : Type} (s : State) (r : Ran α) : Prop where
  effects : Effects s r.state
  done : ∀ v t, r = .done v t → t.fault = s.fault
  raised : ∀ t, r = .raised t → t.fault ≠ none

theorem BusRun.op {α : Type} {s : State} {r : Ran α} (h : BusRun s r) : OpRun s r := ⟨h.effects.effects, h.done, h.raised⟩

theorem OpRun.of_done {α : Type} {s t : State} (v : α) (h : Effects s t) (hf : t.fault = s.fault) :
    OpRun s (.done v t) :=
  ⟨h, fun w u e => by cases e; exact hf, fun _ e => (nomatch e)⟩

theorem OpRun.bind {α β : Type} {s : State} {r : Ran α} {f : α → State → Ran β} (h : OpRun s r)
    (hf : ∀ v t, r = .done v t → OpRun t (f v t)) : OpRun s (r.bind f) := by
  cases r with
  | done v t =>
    have k := hf v t rfl
    exact ⟨h.effects.trans k.effects, fun w u e => (k.done w u e).trans (h.done v t rfl), k.raised⟩
  | raised t => exact ⟨h.effects, fun _ _ e => (nomatch e), fun u e => h.raised u (by cases e; rfl)⟩

theorem OpRun.map {α β : Type} {s : State} {r : Ran α} (g : α → β) (h : OpRun s r) : OpRun s (r.map g) := by
  cases r with
  | done v t => exact .of_done (g v) h.effects (h.done v t rfl)
  | raised t => exact ⟨h.effects, fun _ _ e => (nomatch e), fun u e => h.raised u (by cases e; rfl)⟩

theorem OpRun.after {α : Type} {s t : State} {r : Ran α} (e : Effects s t) (hf : t.fault = s.fault)
    (h : OpRun t r) : OpRun s r :=
  ⟨e.trans h.effects, fun v u k => (h.done v u k).trans hf, h.raised⟩

theorem runEngine_run (c : Cpu) (p : EngineProg) (e : Engine) (s : State) : OpRun s (runEngine c p e s) :=
  .after (.one (.engine s c e)) (by simp) <|
    (runProg_run c p _).op.bind fun v t _ => .of_done v.1 (.one (.engine t c _)) (by simp)

theorem stepEngine_run (c : Cpu) (s : State) : OpRun s (stepEngine c s) := runEngine_run c _ _ s

theorem inject_run (c : Cpu) (inj : Injection) (s : State) : OpRun s (inject c inj s) :=
  .after (.one (.irq s c inj)) (by simp) ((runEngine_run c _ _ _).map _)

/-- What a step of engine `c`, or its acceptance of an injection, leaves alone, done or raised: the count, the frame,
the streams that it does not feed, and the two other engines (R170, R172, R195). -/
structure EngineFrame (c : Cpu) (s t : State) : Prop where
  config : t.config = s.config
  csi : t.csi = s.csi
  colors : t.colors = s.colors
  palettes : t.palettes = s.palettes
  frame : t.frame = s.frame
  irqOut : t.irqOut = s.irqOut
  frameOut : t.frameOut = s.frameOut
  requests : t.requests = s.requests
  others : ∀ d, d ≠ c → t.engines.get d = s.engines.get d

theorem runEngine_frame (c : Cpu) (p : EngineProg) (e : Engine) (s : State) :
    EngineFrame c s (runEngine c p e s).state := by
  have f := (runProg_run c p (s.setEngine c e)).effects.frame
  unfold runEngine
  cases h : runProg c p (s.setEngine c e) <;> rw [h] at f <;>
    simp only [Ran.bind_done, Ran.bind_raised, Ran.state_done, Ran.state_raised] at f ⊢ <;>
    exact ⟨by simpa using f.config, by simpa using f.csi, by simpa using f.colors, by simpa using f.palettes,
      by simpa using f.frame, by simpa using f.irqOut, by simpa using f.frameOut, by simpa using f.requests,
      fun d hd => by simp [f.engines, hd]⟩

theorem stepEngine_frame (c : Cpu) (s : State) : EngineFrame c s (stepEngine c s).state := runEngine_frame c _ _ s

/-- An injection is recorded once, whether the engine accepts it or faults in accepting it (R171, R195). -/
theorem inject_frame (c : Cpu) (inj : Injection) (s : State) :
    EngineFrame c (s.addIrq c inj) (inject c inj s).state := by
  unfold inject
  generalize nextAccept c inj (s.engines.get c) = next
  have f := runEngine_frame c next.1 next.2 (s.addIrq c inj)
  dsimp only
  cases h : runEngine c next.1 next.2 (s.addIrq c inj) <;> rw [h] at f <;> exact f

theorem serviceCpu1_run (s : State) : OpRun s (serviceCpu1 s) := by
  unfold serviceCpu1
  split
  · exact .after (.one (.bus (.enable s .cpu1 false))) (by simp) (inject_run _ _ _)
  · exact .of_done () .refl rfl

theorem serviceCpu2_run (s : State) : OpRun s (serviceCpu2 s) := by
  unfold serviceCpu2
  split
  · exact .after ((Effects.one (.release2 s)).tail (.bus (.enable _ .cpu2 false))) (by simp) (inject_run _ _ _)
  · exact .of_done () .refl rfl

theorem serviceCpu3_run (s : State) : OpRun s (serviceCpu3 s) := by
  unfold serviceCpu3
  split
  · exact .after ((Effects.one (.release3 s)).tail (.bus (.enable _ .cpu3 false))) (by simp) (inject_run _ _ _)
  · exact .of_done () .refl rfl

theorem videoPath_effects (s : State) : Effects s (videoPath s) :=
  (Effects.one (.compose s)).tail (.deliver (compose s))

theorem videoPath_fault (s : State) : (videoPath s).fault = s.fault := by simp [videoPath, compose]

theorem vblank_run (s : State) : OpRun s (vblank s) :=
  .after (videoPath_effects s) (videoPath_fault s) <|
    (serviceCpu1_run _).bind fun _ t _ => (serviceCpu2_run t).bind fun _ u _ =>
      (serviceCpu3_run u).bind fun _ w _ => .of_done () (.one (.count w 0)) (by simp)

/-- A service that is done leaves `csi = 0` (R181). -/
theorem vblank_csi {s t : State} (h : vblank s = .done () t) : t.csi = 0 := by
  unfold vblank at h
  cases h1 : serviceCpu1 (videoPath s) with
  | raised u => rw [h1] at h; cases h
  | done v u =>
    rw [h1, Ran.bind_done] at h
    cases h2 : serviceCpu2 u with
    | raised w => rw [h2] at h; cases h
    | done v w =>
      rw [h2, Ran.bind_done] at h
      cases h3 : serviceCpu3 w with
      | raised x => rw [h3] at h; cases h
      | done v x => rw [h3, Ran.bind_done] at h; cases h; simp

theorem checkVblank_run (n : Nat) (s : State) : OpRun s (checkVblank n s) := by
  refine .after (.one (.count s (s.csi + n))) (by simp) ?_
  unfold checkVblank
  dsimp only
  split
  · exact vblank_run _
  · exact .of_done () .refl rfl

/-- A check that is done leaves `csi` below the threshold (R18, R175, R181). -/
theorem checkVblank_csi {n : Nat} {s t : State} (h : checkVblank n s = .done () t) : t.csi < 51200 := by
  unfold checkVblank at h
  dsimp only at h
  split at h
  · rw [vblank_csi h]; decide
  · rename_i hc
    cases h
    have : decide (51200 ≤ (s.setCsi (s.csi + n)).csi) = false := Bool.eq_false_iff.2 hc
    exact not_le.1 (of_decide_eq_false this)

theorem stepUnlessHalted_run (c : Cpu) (s : State) : OpRun s (stepUnlessHalted c s) := by
  unfold stepUnlessHalted
  split
  · exact .of_done () .refl rfl
  · exact (stepEngine_run c s).map _

theorem iterate_run (s : State) : OpRun s (iterate s) :=
  (stepEngine_run .cpu1 s).bind fun n t _ => (stepUnlessHalted_run .cpu2 t).bind fun _ u _ =>
    (stepUnlessHalted_run .cpu3 u).bind fun _ w _ => checkVblank_run n w

/-- An iteration that is done leaves `csi` below the threshold (R18). -/
theorem iterate_csi {s t : State} (h : iterate s = .done () t) : t.csi < 51200 := by
  unfold iterate at h
  cases h1 : stepEngine .cpu1 s with
  | raised u => rw [h1] at h; cases h
  | done n u =>
    rw [h1, Ran.bind_done] at h
    cases h2 : stepUnlessHalted .cpu2 u with
    | raised w => rw [h2] at h; cases h
    | done v w =>
      rw [h2, Ran.bind_done] at h
      cases h3 : stepUnlessHalted .cpu3 w with
      | raised x => rw [h3] at h; cases h
      | done v x => rw [h3, Ran.bind_done] at h; exact checkVblank_csi h

end Sys2Proof.Machine
end

