-- ==== Sys2Proof/Laws/Exec.lean ====
section
/-!
SUPPORT. All that `exec` can do, for every operation but `reset()`: one case each, from the lemmas of the shared
operations.
-/
namespace Sys2Proof.Machine

theorem romRead_run (c : Cpu) (a : Addr) (s : State) : BusRun s (romRead c a s) := .of_done _ .refl rfl

theorem romWrite_run (c : Cpu) {a : Addr} (v : Byte) (s : State) (h : inRomArray c a = true) :
    BusRun s (romWrite c a v s) := by
  unfold romWrite
  split
  · exact .of_done () (.one (.storeRom s c a v h ‹_›)) (by simp)
  · exact .of_raise s _

theorem romHoleWrite_run (c : Cpu) (a : Addr) (v : Byte) (s : State) : BusRun s (romHoleWrite c a v s) := by
  unfold romHoleWrite
  split <;> exact .of_raise s _

theorem rom2HoleRead_run (a : Addr) (s : State) : BusRun s (rom2HoleRead a s) :=
  .of_done _ (.one (.log s .rom2 a 0x00)) (by simp)

theorem rom3HoleRead_run (a : Addr) (s : State) : BusRun s (rom3HoleRead a s) := .of_raise s _

theorem sinkWrite_run (u : Subsystem) (a : Addr) (v : Byte) (s : State) : BusRun s (sinkWrite u a v s) :=
  .of_done () (.one (.log s u a v)) (by simp)

theorem dipRead_run (a : Addr) (s : State) : BusRun s (dipRead a s) := .of_done _ .refl rfl

theorem irq1Write_run (v : Byte) (s : State) : BusRun s (irq1Write v s) :=
  .of_done () (.one (.enable s .cpu1 _)) (by simp)

theorem irq2Write_run (v : Byte) (s : State) : BusRun s (irq2Write v s) :=
  .of_done () (.one (.enable s .cpu2 _)) (by simp)

theorem nmi3Write_run (v : Byte) (s : State) : BusRun s (nmi3Write v s) :=
  .of_done () (.one (.enable s .cpu3 _)) (by simp)

theorem haltWrite_run (v : Byte) (s : State) : BusRun s (haltWrite v s) := .of_done () (.one (.halts s _)) (by simp)

theorem wdogWrite_run (s : State) : BusRun s (wdogWrite s) := .of_done () .refl rfl

theorem n06Read_run (a : Addr) (s : State) : BusRun s (n06Read a s) :=
  .of_done _ (.one (.log s .namco06xx a namco06Read)) (by simp)

theorem ramRead_run (a : Addr) (s : State) : BusRun s (ramRead a s) := .of_done _ .refl rfl

theorem ramWrite_run {a : Addr} (v : Byte) (s : State) (h : inRamWindow a = true) : BusRun s (ramWrite a v s) :=
  .of_done () (.one (.storeRam s a v h)) (by simp)

theorem unmappedRead_run (c : Cpu) (a : Addr) (s : State) : BusRun s (unmappedRead c a s) := .of_raise s _

theorem unmappedWrite_run (c : Cpu) (a : Addr) (s : State) : BusRun s (unmappedWrite c a s) := .of_raise s _

theorem port0Write_run (v : Byte) (s : State) : BusRun s (port0Write v s) :=
  .of_done () (.one (.latchPort s v)) (by simp)

theorem portOtherWrite_run (p v : Byte) (s : State) : BusRun s (portOtherWrite p v s) :=
  .of_done () (.one (.log s .port (portAddr p) v)) (by simp)

theorem compose_run (s : State) : OpRun s (Ran.done Reply.nothing (compose s)) :=
  .of_done _ (.one (.compose s)) (by simp [compose])

/-- What an operation's outcome tells: a next state came from a machine with no fault recorded, from operands of the
operation's class, and through finitely many effects. -/
def Runs (i : Instr) (s : State) (o : Host.Outcome State Fault Refusal) : Prop :=
  ∀ t, o = .next t → s.fault = none ∧ i.wf = true ∧ ∃ r : Ran Reply, OpRun s r ∧ r.outcome = .next t

theorem issue_runs {i : Instr} {s : State} {body : State → Ran Reply} (h : i.wf = true → OpRun s (body s)) :
    Runs i s (issue i s body) := by
  intro t ht
  obtain ⟨hf, hw, ho⟩ := issue_next ht
  exact ⟨hf, hw, body s, h hw, ho⟩

theorem execBuildPalettes_runs (lookup : Vector Byte 256) (colors : ColorTable) (s : State) :
    Runs (.buildPalettes lookup colors) s (execBuildPalettes lookup colors s) := by
  unfold execBuildPalettes
  refine issue_runs fun _ => ?_
  cases buildPalettes lookup colors with
  | ok t => exact (BusRun.of_done _ .refl rfl).op
  | error k => exact (BusRun.of_raise s _).op

/-- Every operation but `reset()` runs in the frame of `issue`, and its body is a run of the effects of the loop. -/
theorem exec_runs (i : Instr) (hi : i ≠ .reset) (s : State) : Runs i s (exec i s) := by
  cases i
  case rom1Rd => unfold exec execRom1Rd; exact issue_runs (by intro _; exact ((romRead_run _ _ s).map _).op)
  case rom2Rd => unfold exec execRom2Rd; exact issue_runs (by intro _; exact ((romRead_run _ _ s).map _).op)
  case rom2RdHole => unfold exec execRom2RdHole; exact issue_runs (by intro _; exact ((rom2HoleRead_run _ s).map _).op)
  case rom3Rd => unfold exec execRom3Rd; exact issue_runs (by intro _; exact ((romRead_run _ _ s).map _).op)
  case rom3RdHole => unfold exec execRom3RdHole; exact issue_runs (by intro _; exact ((rom3HoleRead_run _ s).map _).op)
  case romWr => unfold exec execRomWr; exact issue_runs (by intro h; exact ((romWrite_run _ _ s h).map _).op)
  case romWrHole => unfold exec execRomWrHole; exact issue_runs (by intro _; exact ((romHoleWrite_run _ _ _ s).map _).op)
  case dipRd => unfold exec execDipRd; exact issue_runs (by intro _; exact ((dipRead_run _ s).map _).op)
  case sndWr => unfold exec execSndWr; exact issue_runs (by intro _; exact ((sinkWrite_run _ _ _ s).map _).op)
  case irq1Wr => unfold exec execIrq1Wr; exact issue_runs (by intro _; exact ((irq1Write_run _ s).map _).op)
  case irq2Wr => unfold exec execIrq2Wr; exact issue_runs (by intro _; exact ((irq2Write_run _ s).map _).op)
  case nmi3Wr => unfold exec execNmi3Wr; exact issue_runs (by intro _; exact ((nmi3Write_run _ s).map _).op)
  case haltWr => unfold exec execHaltWr; exact issue_runs (by intro _; exact ((haltWrite_run _ s).map _).op)
  case latchUnimplWr => unfold exec execLatchUnimplWr; exact issue_runs (by intro _; exact ((sinkWrite_run _ _ _ s).map _).op)
  case wdogWr => unfold exec execWdogWr; exact issue_runs (by intro _; exact ((wdogWrite_run s).map _).op)
  case n06Rd => unfold exec execN06Rd; exact issue_runs (by intro _; exact ((n06Read_run _ s).map _).op)
  case n06Wr => unfold exec execN06Wr; exact issue_runs (by intro _; exact ((sinkWrite_run _ _ _ s).map _).op)
  case starWr => unfold exec execStarWr; exact issue_runs (by intro _; exact ((sinkWrite_run _ _ _ s).map _).op)
  case flipWr => unfold exec execFlipWr; exact issue_runs (by intro _; exact ((sinkWrite_run _ _ _ s).map _).op)
  case ramRd => unfold exec execRamRd; exact issue_runs (by intro _; exact ((ramRead_run _ s).map _).op)
  case ramWr => unfold exec execRamWr; exact issue_runs (by intro h; exact ((ramWrite_run _ s h).map _).op)
  case unmappedRd => unfold exec execUnmappedRd; exact issue_runs (by intro _; exact ((unmappedRead_run _ _ s).map _).op)
  case unmappedWr => unfold exec execUnmappedWr; exact issue_runs (by intro _; exact ((unmappedWrite_run _ _ s).map _).op)
  case port0Wr => unfold exec execPort0Wr; exact issue_runs (by intro _; exact ((port0Write_run _ s).map _).op)
  case portWrOther => unfold exec execPortWrOther; exact issue_runs (by intro _; exact ((portOtherWrite_run _ _ s).map _).op)
  case portRd => unfold exec execPortRd; exact issue_runs (by intro _; exact ((portRead_run _ s).map _).op)
  case read16 => unfold exec execRead16; exact issue_runs (by intro _; exact ((readPair_run _ _ s).map _).op)
  case write16 => unfold exec execWrite16; exact issue_runs (by intro _; exact ((writePair_run _ _ _ s).map _).op)
  case decodeColor => unfold exec execDecodeColor; exact issue_runs (by intro _; exact (BusRun.of_done _ .refl rfl).op)
  case buildColors => unfold exec execBuildColors; exact issue_runs (by intro _; exact (BusRun.of_done _ .refl rfl).op)
  case buildPalettes lookup colors => exact execBuildPalettes_runs lookup colors s
  case renderTile => unfold exec execRenderTile; exact issue_runs (by intro _; exact (BusRun.of_done _ .refl rfl).op)
  case composeFrame => unfold exec execComposeFrame; exact issue_runs (by intro _; exact compose_run s)
  case loopIter => unfold exec execLoopIter; exact issue_runs (by intro _; exact (iterate_run s).map _)
  case handleInterrupts => unfold exec execHandleInterrupts; exact issue_runs (by intro _; exact (checkVblank_run _ s).map _)
  case vblankService => unfold exec execVblankService; exact issue_runs (by intro _; exact (vblank_run s).map _)
  case reset => exact absurd rfl hi

/-- Everything an operation but `reset()` can do when it answers a next state: it ran on a machine with no fault
recorded, on operands of its class, through finitely many effects, and then answered its issuer. -/
theorem exec_next {i : Instr} {s t : State} (hi : i ≠ .reset) (h : exec i s = .next t) :
    s.fault = none ∧ i.wf = true ∧ ∃ r : Ran Reply, OpRun s r ∧ r.outcome = .next t :=
  exec_runs i hi s t h

/-- The state an operation but `reset()` answers, up to the reply, comes from finitely many effects. -/
theorem exec_effects {i : Instr} {s t : State} (hi : i ≠ .reset) (h : exec i s = .next t) :
    ∃ u r, Effects s u ∧ t = u.setReply r := by
  obtain ⟨_, _, r, hr, ho⟩ := exec_next hi h
  obtain ⟨v, rfl⟩ := Ran.outcome_next ho
  exact ⟨r.state, v, hr.effects, rfl⟩

/-- All that `step` can do when it answers a next state: the loop's iteration, or the operation presented. -/
theorem step_next {s t : State} (h : step s = .next t) :
    (s.requests = [] ∧ exec .loopIter s = .next t) ∨
    ∃ r rest i, s.requests = r :: rest ∧ decode r = .ok i ∧ exec i (s.setRequests rest) = .next t := by
  unfold step at h
  split at h
  · exact .inl ⟨‹_›, h⟩
  · rename_i r rest hr
    split at h
    · exact .inr ⟨r, rest, _, hr, ‹_›, h⟩
    · cases h

end Sys2Proof.Machine
end

