-- ==== Sys2Proof/Laws/PerInstr.lean ====
section
/-!
SUPPORT. A law of every operation as syntax, one lemma for each constructor: the request that presents it fits its
format (R71, R73, R77, R81).
-/
namespace Sys2Proof.Laws.RequestFits

/-- The request of operation `i` has the width of its format, names one of the three CPUs, and carries a data byte
exactly when it is a write; a call has no key. -/
def Statement (i : Instr) : Prop :=
  match encode i with
  | .bus8 key data => key < 0x80000 ∧ busCpu key ≠ none ∧ busWr key = data.isSome
  | .port key data => key < 0x800 ∧ portCpu key ≠ none ∧ portWr key = data.isSome
  | .call _ _ => True

/-- A byte transaction fits. -/
theorem of_bus {i : Instr} {wr : Bool} {c : Cpu} {a : Addr} {data : Option Byte}
    (h : encode i = .bus8 (busKey wr c a) data) (hd : wr = data.isSome) : Statement i := by
  simp only [Statement, h]
  exact ⟨busKey_lt wr c a, by rw [busCpu_busKey]; exact Option.some_ne_none c, by rw [busWr_busKey, hd]⟩

/-- A port transaction fits. -/
theorem of_port {i : Instr} {wr : Bool} {c : Cpu} {p : Byte} {data : Option Byte}
    (h : encode i = .port (portKey wr c p) data) (hd : wr = data.isSome) : Statement i := by
  simp only [Statement, h]
  exact ⟨portKey_lt wr c p, by rw [portCpu_portKey]; exact Option.some_ne_none c, by rw [portWr_portKey, hd]⟩

/-- A call has no key. -/
theorem of_call {i : Instr} {n : CallName} {l : List Nat} (h : encode i = .call n l) : Statement i := by
  simp only [Statement, h]

theorem rom1Rd (a : Addr) : Statement (.rom1Rd a) := of_bus rfl rfl
theorem rom2Rd (a : Addr) : Statement (.rom2Rd a) := of_bus rfl rfl
theorem rom2RdHole (a : Addr) : Statement (.rom2RdHole a) := of_bus rfl rfl
theorem rom3Rd (a : Addr) : Statement (.rom3Rd a) := of_bus rfl rfl
theorem rom3RdHole (a : Addr) : Statement (.rom3RdHole a) := of_bus rfl rfl
theorem romWr (c : Cpu) (a : Addr) (v : Byte) : Statement (.romWr c a v) := of_bus rfl rfl
theorem romWrHole (c : Cpu) (a : Addr) (v : Byte) : Statement (.romWrHole c a v) := of_bus rfl rfl
theorem dipRd (c : Cpu) (a : Addr) : Statement (.dipRd c a) := of_bus rfl rfl
theorem sndWr (c : Cpu) (a : Addr) (v : Byte) : Statement (.sndWr c a v) := of_bus rfl rfl
theorem irq1Wr (c : Cpu) (v : Byte) : Statement (.irq1Wr c v) := of_bus rfl rfl
theorem irq2Wr (c : Cpu) (v : Byte) : Statement (.irq2Wr c v) := of_bus rfl rfl
theorem nmi3Wr (c : Cpu) (v : Byte) : Statement (.nmi3Wr c v) := of_bus rfl rfl
theorem haltWr (c : Cpu) (v : Byte) : Statement (.haltWr c v) := of_bus rfl rfl
theorem latchUnimplWr (c : Cpu) (a : Addr) (v : Byte) : Statement (.latchUnimplWr c a v) := of_bus rfl rfl
theorem wdogWr (c : Cpu) (v : Byte) : Statement (.wdogWr c v) := of_bus rfl rfl
theorem n06Rd (c : Cpu) (a : Addr) : Statement (.n06Rd c a) := of_bus rfl rfl
theorem n06Wr (c : Cpu) (a : Addr) (v : Byte) : Statement (.n06Wr c a v) := of_bus rfl rfl
theorem starWr (c : Cpu) (a : Addr) (v : Byte) : Statement (.starWr c a v) := of_bus rfl rfl
theorem flipWr (c : Cpu) (v : Byte) : Statement (.flipWr c v) := of_bus rfl rfl
theorem ramRd (c : Cpu) (a : Addr) : Statement (.ramRd c a) := of_bus rfl rfl
theorem ramWr (c : Cpu) (a : Addr) (v : Byte) : Statement (.ramWr c a v) := of_bus rfl rfl
theorem unmappedRd (c : Cpu) (a : Addr) : Statement (.unmappedRd c a) := of_bus rfl rfl
theorem unmappedWr (c : Cpu) (a : Addr) (v : Byte) : Statement (.unmappedWr c a v) := of_bus rfl rfl
theorem port0Wr (v : Byte) : Statement (.port0Wr v) := of_port rfl rfl
theorem portWrOther (c : Cpu) (p : Byte) (v : Byte) : Statement (.portWrOther c p v) := of_port rfl rfl
theorem portRd (c : Cpu) (p : Byte) : Statement (.portRd c p) := of_port rfl rfl
theorem read16 (c : Cpu) (a : Addr) : Statement (.read16 c a) := of_call rfl
theorem write16 (c : Cpu) (a : Addr) (v : Half) : Statement (.write16 c a v) := of_call rfl
theorem decodeColor (b : Byte) : Statement (.decodeColor b) := of_call rfl
theorem buildColors (prom : Vector Byte 32) : Statement (.buildColors prom) := of_call rfl
theorem buildPalettes (lookup : Vector Byte 256) (colors : ColorTable) : Statement (.buildPalettes lookup colors) := of_call rfl
theorem renderTile (t : Byte) (p : BitVec 6) : Statement (.renderTile t p) := of_call rfl
theorem composeFrame : Statement (.composeFrame) := of_call rfl
theorem loopIter : Statement (.loopIter) := of_call rfl
theorem handleInterrupts (c1 : Nat) : Statement (.handleInterrupts c1) := of_call rfl
theorem vblankService : Statement (.vblankService) := of_call rfl
theorem reset : Statement (.reset) := of_call rfl

end Sys2Proof.Laws.RequestFits
end

