-- ==== Sys2Proof/Laws/Sequencer.lean ====
section
/-!
SUPPORT. What each operation of the loop answers on a known case: an engine whose next turn is given as data and makes
no transaction, a CPU that is Halted or Running, an enable that is set or clear, a count below or past the threshold.
-/
namespace Sys2Proof.Machine

/-! ### Engines -/

theorem turnProg_noActs (k d : Nat) : turnProg ⟨[], false, k, d⟩ = .finish k d := rfl

theorem stepEngine_of_steps {c : Cpu} {s : State} {t : Turn} {rest : List Turn}
    (h : (s.engines.get c).steps = t :: rest) :
    stepEngine c s = runEngine c (turnProg t) { s.engines.get c with steps := rest } s := by
  simp only [stepEngine, nextStep, h]

theorem inject_of_accepts {c : Cpu} {s : State} {t : Turn} {rest : List Turn} (inj : Injection)
    (h : (s.engines.get c).accepts = t :: rest) :
    inject c inj s =
      (runEngine c (turnProg t) { s.engines.get c with accepts := rest } (s.addIrq c inj)).map fun _ => () := by
  simp only [inject, nextAccept, h]

theorem runEngine_finish (c : Cpu) (k d : Nat) (e : Engine) (s : State) :
    runEngine c (.finish k d) e s = .done k (s.setEngine c { e with code := d }) := by
  cases c <;> rfl

/-- A turn with no transaction moves the engine on and reports its cycles. -/
theorem stepEngine_noActs {c : Cpu} {s : State} {k d : Nat} {rest : List Turn}
    (h : (s.engines.get c).steps = ⟨[], false, k, d⟩ :: rest) :
    stepEngine c s = .done k (s.setEngine c { s.engines.get c with code := d, steps := rest }) := by
  rw [stepEngine_of_steps h, turnProg_noActs, runEngine_finish]

/-- An injection accepted with no transaction is recorded and moves the engine on. -/
theorem inject_noActs {c : Cpu} {s : State} {k d : Nat} {rest : List Turn} (inj : Injection)
    (h : (s.engines.get c).accepts = ⟨[], false, k, d⟩ :: rest) :
    inject c inj s =
      .done () ((s.addIrq c inj).setEngine c { s.engines.get c with code := d, accepts := rest }) := by
  rw [inject_of_accepts inj h, turnProg_noActs, runEngine_finish]
  rfl

/-! ### Halt and run -/

theorem stepUnlessHalted_halted {c : Cpu} {s : State} (h : s.halted c = true) : stepUnlessHalted c s = .done () s := by
  rw [stepUnlessHalted, if_pos h]

theorem stepUnlessHalted_running {c : Cpu} {s : State} (h : s.halted c = false) :
    stepUnlessHalted c s = (stepEngine c s).map fun _ => () := by
  rw [stepUnlessHalted, if_neg (by rw [h]; exact Bool.false_ne_true)]

/-! ### The check and the service -/

theorem vblankDue_iff {n : Nat} : vblankDue n = true ↔ 51200 ≤ n := by
  rw [vblankDue, decide_eq_true_iff]
  exact Iff.rfl

theorem checkVblank_below {n : Nat} {s : State} (h : s.csi + n < 51200) :
    checkVblank n s = .done () (s.setCsi (s.csi + n)) := by
  have : ¬vblankDue (s.csi + n) = true := by rw [vblankDue_iff]; omega
  unfold checkVblank
  dsimp only
  rw [State.setCsi_csi, if_neg this]

theorem checkVblank_due {n : Nat} {s : State} (h : 51200 ≤ s.csi + n) :
    checkVblank n s = vblank (s.setCsi (s.csi + n)) := by
  have : vblankDue (s.csi + n) = true := vblankDue_iff.2 h
  unfold checkVblank
  dsimp only
  rw [State.setCsi_csi, if_pos this]

theorem serviceCpu1_disabled {s : State} (h : s.ie.c1 = false) : serviceCpu1 s = .done () s := by
  simp [serviceCpu1, h]

theorem serviceCpu2_disabled {s : State} (h : s.ie.c2 = false) : serviceCpu2 s = .done () s := by
  simp [serviceCpu2, h]

theorem serviceCpu3_disabled {s : State} (h : s.ie.c3 = false) : serviceCpu3 s = .done () s := by
  simp [serviceCpu3, h]

theorem serviceCpu1_enabled {s : State} (h : s.ie.c1 = true) :
    serviceCpu1 s = inject .cpu1 (.maskable s.port0) (s.setIe .cpu1 false) := by
  simp [serviceCpu1, h]

theorem serviceCpu2_enabled {s : State} (h : s.ie.c2 = true) :
    serviceCpu2 s = inject .cpu2 (.maskable 0x00) ((s.setHalt2 false).setIe .cpu2 false) := by
  simp [serviceCpu2, h, cpu2Vector]

theorem serviceCpu3_enabled {s : State} (h : s.ie.c3 = true) :
    serviceCpu3 s = inject .cpu3 .nmi ((s.setHalt3 false).setIe .cpu3 false) := by
  simp [serviceCpu3, h]

/-- A service that no CPU's enable asks for hands over the frame and restarts the count (R177, R181). -/
theorem vblank_disabled {s : State} (h1 : s.ie.c1 = false) (h2 : s.ie.c2 = false) (h3 : s.ie.c3 = false) :
    vblank s = .done () ((videoPath s).setCsi 0) := by
  have hv : (videoPath s).ie = s.ie := by simp [videoPath, compose]
  rw [vblank, serviceCpu1_disabled (by rw [hv]; exact h1), Ran.bind_done,
    serviceCpu2_disabled (by rw [hv]; exact h2), Ran.bind_done, serviceCpu3_disabled (by rw [hv]; exact h3),
    Ran.bind_done]

end Sys2Proof.Machine
end

