-- ==== Sys2Proof/Laws/Video.lean ====
section
/-!
SUPPORT. The video path, pixel by pixel: what a tile, a canvas and a composed frame hold at one place, and which visits
of the composer cover it. Also that the tables of the state after reset are those the builders make.
-/
namespace Sys2Proof.Machine

/-! ### Tables -/

theorem buildColors_get (cb : ColorBits) (prom : Vector Byte 32) (i : Nat) (h : i < 32) :
    (buildColors cb prom)[i] = decodeColor cb prom[i] := by
  rw [buildColors, Vector.getElem_ofFn]; rfl

theorem paletteTable_get (lookup : Vector Byte 256) (colors : ColorTable) (p e : Nat) (hp : p < 64) (he : e < 4) :
    (paletteTable lookup colors)[p][e] = colorAt colors (lookup[4 * p + e]).toNat := by
  simp only [paletteTable, Vector.getElem_ofFn]

theorem firstBadIndex_none {k : Nat} {l : List Byte} (h : ∀ b ∈ l, b.toNat < 32) : firstBadIndex k l = none := by
  induction l generalizing k with
  | nil => rfl
  | cons b l ih =>
    rw [firstBadIndex, if_pos (h b List.mem_cons_self)]
    exact ih fun c hc => h c (List.mem_cons_of_mem b hc)

/-- A lookup PROM with every byte below 32 builds (R138). -/
theorem buildPalettes_ok (lookup : Vector Byte 256) (colors : ColorTable) (h : ∀ i : Fin 256, (lookup[i]).toNat < 32) :
    buildPalettes lookup colors = .ok (paletteTable lookup colors) := by
  rw [buildPalettes, firstBadIndex_none]
  intro b hb
  obtain ⟨i, hi, rfl⟩ := List.getElem_of_mem hb
  rw [Vector.length_toList] at hi
  exact h ⟨i, hi⟩

/-- The tables of the state after reset are what the builders make of its PROMs (R21, R221). -/
theorem reset_tables_are_built : TablesBuilt State.reset :=
  ⟨by unfold LookupOk; decide +kernel, by decide +kernel, by decide +kernel⟩

/-! ### Tiles -/

theorem renderTile_get (rom : Memory) (layout : TileLayout) (palettes : PaletteTable) (t : Byte) (p : BitVec 6)
    (x y : Nat) (hx : x < 8) (hy : y < 8) :
    (renderTile rom layout palettes t p)[y][x] = tilePixel rom layout palettes t p ⟨x, hx⟩ ⟨y, hy⟩ := by
  simp only [renderTile, Vector.getElem_ofFn]

/-- Every pixel of every tile is opaque (R149). -/
theorem renderTile_alpha (rom : Memory) (layout : TileLayout) (palettes : PaletteTable) (t : Byte) (p : BitVec 6)
    (x y : Nat) (hx : x < 8) (hy : y < 8) : ((renderTile rom layout palettes t p)[y][x]).a = 0xFF := by
  rw [renderTile_get]; rfl

/-! ### Canvases -/

theorem frameOf_get (cv : Canvas) (x y : Nat) (hx : x < 224) (hy : y < 288) : (frameOf cv)[y][x] = cv x y := by
  simp only [frameOf, Vector.getElem_ofFn]

theorem covers_iff {col row x y : Nat} :
    covers col row x y = true ↔ 2 ≤ col ∧ col ≤ 29 ∧ x / 8 = col - 2 ∧ y / 8 = row := by
  simp [covers, and_assoc]

/-- Visits that do not cover a place leave it. -/
theorem foldl_visitSlot_miss (s : State) (vs : List Visit) (cv : Canvas) (x y : Nat)
    (h : ∀ v ∈ vs, covers v.col v.row x y = false) : vs.foldl (visitSlot s) cv x y = cv x y := by
  induction vs generalizing cv with
  | nil => rfl
  | cons v vs ih =>
    rw [List.foldl_cons, ih _ fun w hw => h w (List.mem_cons_of_mem v hw), visitSlot, h v List.mem_cons_self]
    rfl

/-- Where all the visits that cover a place are of one slot, and there is one, the place ends with that slot's
pixel. -/
theorem foldl_visitSlot_hit (s : State) (vs : List Visit) (cv : Canvas) (x y slot : Nat)
    (all : ∀ v ∈ vs, covers v.col v.row x y = true → v.slot = slot)
    (some : ∃ v ∈ vs, covers v.col v.row x y = true) :
    vs.foldl (visitSlot s) cv x y = tilePixelUnder (slotTile s slot) x y := by
  induction vs generalizing cv with
  | nil => obtain ⟨_, hv, _⟩ := some; exact absurd hv List.not_mem_nil
  | cons v vs ih =>
    rw [List.foldl_cons]
    by_cases later : ∃ w ∈ vs, covers w.col w.row x y = true
    · exact ih _ (fun w hw => all w (List.mem_cons_of_mem v hw)) later
    · have none : ∀ w ∈ vs, covers w.col w.row x y = false := fun w hw =>
        Bool.eq_false_iff.2 fun hc => later ⟨w, hw, hc⟩
      have hv : covers v.col v.row x y = true := by
        obtain ⟨w, hw, hc⟩ := some
        rcases List.mem_cons.1 hw with rfl | hw
        · exact hc
        · exact absurd ⟨w, hw, hc⟩ later
      rw [foldl_visitSlot_miss s vs _ x y none, visitSlot, hv, if_pos rfl, all v List.mem_cons_self hv]

theorem mem_playfieldVisits {v : Visit} : v ∈ playfieldVisits ↔
    ∃ n, n < 896 ∧ v = { slot := 0x040 + n, col := 29 - n / 32, row := 2 + n % 32 } := by
  simp [playfieldVisits, eq_comm]

theorem mem_stripVisits {v : Visit} {first row : Nat} : v ∈ stripVisits first row ↔
    ∃ k, k < 32 ∧ v = { slot := first - k, col := k, row := row } := by
  simp [stripVisits, eq_comm]

theorem composedFrame_get (s : State) (x y : Nat) (hx : x < 224) (hy : y < 288) :
    (composedFrame s)[y][x] = visits.foldl (visitSlot s) (canvasOf s.frame) x y := by
  rw [composedFrame, frameOf_get]

end Sys2Proof.Machine
end

