-- ==== Sys2Proof/Tests/Slice0.lean ====
section
/-!
SUPPORT. The model's own tests: the smoke test of the well-formedness checks, decoding of keys written out by hand from
R71 and R73, one or two single-step tests for each operation with results taken from spec/95_test_vectors.md, and for
each statement of Certificates/Slice0 that has hypotheses a state and operands that meet them.
-/
open Sys2Proof Sys2Proof.Machine Sys2Proof.Spec

namespace Sys2Proof.Tests

/-! ### Helpers and fixtures -/

/-- Operation `i` answers a next state, and that state satisfies `p`. -/
def leaves (i : Instr) (s : State) (p : State → Bool) : Bool :=
  match exec i s with
  | .next t => p t
  | .fault _ => false
  | .refused _ => false

/-- Operation `i` answers `r`. -/
def answers (i : Instr) (s : State) (r : Reply) : Bool := leaves i s fun t => decide (t.reply = r ∧ t.fault = none)

/-- Operation `i` records the fault `k`. -/
def faults (i : Instr) (s : State) (k : FaultKind) : Bool := leaves i s fun t => decide (t.fault = some k)

/-- The state operation `i` leaves, where it answers one. -/
def leave (i : Instr) (s : State) : State :=
  match exec i s with
  | .next t => t
  | .fault _ => s
  | .refused _ => s

/-- The state after reset with a script for each engine. -/
def scripted (t1 t2 t3 : List Turn) : State :=
  { State.reset with engines := ⟨⟨0, t1, []⟩, ⟨0, t2, []⟩, ⟨0, t3, []⟩⟩ }

/-- The state after reset with the code ROMs writable. -/
def writable : State := { State.reset with config := { Config.default with writableRom := true } }

/-- A machine that an unmapped read has stopped. -/
def stuck : State := { State.reset with fault := some (.unmappedAddress .cpu2 0x4000 .read) }

/-- Fixture F-PROM of V6.2. -/
def fixtureProm : Vector Byte 32 :=
  #v[0x00, 0x07, 0x38, 0xC0, 0xFF, 0x3F, 0xF8, 0xC7, 0x33, 0x58, 0x7D, 0xA2, 0xC7, 0xEC, 0x11, 0x36,
     0x5B, 0x80, 0xA5, 0xCA, 0xEF, 0x14, 0x39, 0x5E, 0x83, 0xA8, 0xCD, 0xF2, 0x17, 0x3C, 0x61, 0x86]

/-- Fixture F-LUT of V6.3. -/
def fixtureLookup : Vector Byte 256 := Vector.ofFn fun j => BitVec.ofNat 8 (j.val % 32)

/-- F-LUT with byte 5 replaced (V6.4). -/
def lookupWith (v : Byte) : Vector Byte 256 :=
  Vector.ofFn fun j => if j.val = 5 then v else BitVec.ofNat 8 (j.val % 32)

/-- Fixture F-TILE of V7: tiles 1 to 4. -/
def fixtureTiles : Memory :=
  (List.range 16).map (fun k => (0x10 + k, 0xFF)) ++ (List.range 16).map (fun k => (0x20 + k, 0x0F)) ++
  (List.range 16).map (fun k => (0x30 + k, 0xF0)) ++
  [(0x40, 0x01), (0x41, 0x02), (0x42, 0x04), (0x43, 0x08), (0x44, 0x10), (0x45, 0x20), (0x46, 0x40), (0x47, 0x80),
   (0x48, 0x11), (0x49, 0x22), (0x4A, 0x44), (0x4B, 0x88), (0x4C, 0x03), (0x4D, 0x0C), (0x4E, 0x30), (0x4F, 0xC0)]

/-- The fixtures, with the few bytes of F-ROM (V2) that the tests read. -/
def fixtureConfig : Config :=
  { Config.default with
    rom1Image := [(0x0000, 0x01), (0x0001, 0x04), (0x3FFE, 0xFB), (0x3FFF, 0xFE)]
    rom2Image := [(0x0000, 0x02), (0x0FFF, 0xFD)]
    rom3Image := [(0x0000, 0x03), (0x0FFF, 0xFC)]
    tileRom := fixtureTiles
    colorProm := fixtureProm
    charLookup := fixtureLookup }

/-- The machine with the fixtures, after `reset()`. -/
def booted : State := leave .reset { State.reset with config := fixtureConfig }

/-- The VRAM of PG3 on that machine. -/
def painted : State :=
  booted.setMem [(0x8000, 0x01), (0x8040, 0x01), (0x8041, 0x81), (0x83DD, 0x04), (0x83DF, 0x01),
    (0x8441, 0x41), (0x8442, 0x01), (0x87DD, 0x07)]

/-- The pixel at `(x, y)` that `compose_frame` leaves. -/
def pixelAt (s : State) (x y : Nat) (p : Pixel) : Bool :=
  leaves .composeFrame s fun t => decide (canvasOf t.frame x y = p)

/-! ### The well-formedness checks -/

theorem test_wf_rom_ranges : Instr.wf (.rom1Rd 0x4000) = false ∧ Instr.wf (.rom2Rd 0x1000) = false ∧
    Instr.wf (.rom2RdHole 0x0FFF) = false ∧ Instr.wf (.rom3Rd 0x1000) = false ∧
    Instr.wf (.rom3RdHole 0x4000) = false ∧ Instr.wf (.romWr .cpu1 0x4000 0x5A) = false ∧
    Instr.wf (.romWr .cpu2 0x1000 0x5A) = false ∧ Instr.wf (.romWrHole .cpu1 0x1000 0x5A) = false ∧
    Instr.wf (.romWrHole .cpu3 0x0FFF 0x5A) = false := by decide

theorem test_wf_mmio_ranges : Instr.wf (.dipRd .cpu1 0x6808) = false ∧ Instr.wf (.sndWr .cpu1 0x6820 0x00) = false ∧
    Instr.wf (.latchUnimplWr .cpu1 0x6828 0x00) = false ∧ Instr.wf (.n06Rd .cpu1 0x7101) = false ∧
    Instr.wf (.n06Wr .cpu1 0x6FFF 0x00) = false ∧ Instr.wf (.starWr .cpu1 0xA006 0x00) = false := by decide

theorem test_wf_ram_and_port_ranges : Instr.wf (.ramRd .cpu1 0x8C00) = false ∧
    Instr.wf (.ramWr .cpu1 0x97FF 0x00) = false ∧ Instr.wf (.unmappedRd .cpu1 0x8000) = false ∧
    Instr.wf (.unmappedWr .cpu1 0xA007 0x00) = false ∧ Instr.wf (.portWrOther .cpu1 0x00 0x00) = false := by decide

theorem test_ill_formed_is_refused : exec (.dipRd .cpu1 0x6808) State.reset = .refused .malformed := rfl

theorem test_wf_config : Config.default.wf = true ∧
    ({ Config.default with dip := #v[0, 0, 0, 0, 0x04, 0, 0, 0] } : Config).wf = false ∧
    ({ Config.default with rom2Image := [(0x1000, 0x01)] } : Config).wf = false ∧
    ({ Config.default with tileRom := [(0x0001, 0x01), (0x0000, 0x01)] } : Config).wf = false ∧
    ({ Config.default with colorBits := ⟨0, 1, 2, 3, 4, 5, 6, 6⟩ } : Config).wf = false ∧
    ({ Config.default with tileLayout := Vector.replicate 64 ⟨0, 0, 0, 1⟩ } : Config).wf = false := by decide +kernel

/-! ### Decoding: keys written out by hand from R71, R73 and the classes' own rules -/

theorem test_decode_rom_reads : decodeTableWord 24 0x13FFF = some (.rom1Rd 0x3FFF) ∧
    decodeTableWord 24 0x20FFF = some (.rom2Rd 0x0FFF) ∧ decodeTableWord 24 0x21000 = some (.rom2RdHole 0x1000) ∧
    decodeTableWord 24 0x30010 = some (.rom3Rd 0x0010) ∧ decodeTableWord 24 0x33FFF = some (.rom3RdHole 0x3FFF) := by
  decide

theorem test_decode_rom_writes : decodeTableWord 24 0x5A053FFF = some (.romWr .cpu1 0x3FFF 0x5A) ∧
    decodeTableWord 24 0xA5060FFF = some (.romWr .cpu2 0x0FFF 0xA5) ∧
    decodeTableWord 24 0x01073FFF = some (.romWrHole .cpu3 0x3FFF 0x01) := by decide

theorem test_decode_latches : decodeTableWord 24 0x01056820 = some (.irq1Wr .cpu1 0x01) ∧
    decodeTableWord 24 0x01066821 = some (.irq2Wr .cpu2 0x01) ∧
    decodeTableWord 24 0x00076822 = some (.nmi3Wr .cpu3 0x00) ∧
    decodeTableWord 24 0x01056823 = some (.haltWr .cpu1 0x01) ∧
    decodeTableWord 24 0x5A076827 = some (.latchUnimplWr .cpu3 0x6827 0x5A) := by decide

theorem test_decode_mmio : decodeTableWord 24 0x16804 = some (.dipRd .cpu1 0x6804) ∧
    decodeTableWord 24 0x5A07681F = some (.sndWr .cpu3 0x681F 0x5A) ∧
    decodeTableWord 24 0x5A076830 = some (.wdogWr .cpu3 0x5A) ∧
    decodeTableWord 24 0x27100 = some (.n06Rd .cpu2 0x7100) ∧
    decodeTableWord 24 0x5A077100 = some (.n06Wr .cpu3 0x7100 0x5A) ∧
    decodeTableWord 24 0x5A07A005 = some (.starWr .cpu3 0xA005 0x5A) ∧
    decodeTableWord 24 0x5A07A007 = some (.flipWr .cpu3 0x5A) := by decide

theorem test_decode_ram_and_unmapped : decodeTableWord 24 0x29BFF = some (.ramRd .cpu2 0x9BFF) ∧
    decodeTableWord 24 0xAB058800 = some (.ramWr .cpu1 0x8800 0xAB) ∧
    decodeTableWord 24 0x24000 = some (.unmappedRd .cpu2 0x4000) ∧
    decodeTableWord 24 0x5A07A006 = some (.unmappedWr .cpu3 0xA006 0x5A) := by decide

theorem test_decode_ports : decodeTableWord 16 0x340500 = some (.port0Wr 0x34) ∧
    decodeTableWord 16 0x770600 = some (.portWrOther .cpu2 0x00 0x77) ∧
    decodeTableWord 16 0x7705FF = some (.portWrOther .cpu1 0xFF 0x77) ∧
    decodeTableWord 16 0x3FF = some (.portRd .cpu3 0xFF) := by decide

theorem test_decode_reserved_cpu : decodeTableWord 24 0x08000 = none ∧ decodeTableWord 16 0x400 = none ∧
    decode (.bus8 0x4FFFF (some 0x00)) = .error .reservedCpu := by decide

theorem test_decode_wrong_data : decode (.bus8 0x18800 (some 0x01)) = .error .dataOnRead ∧
    decode (.bus8 0x58800 none) = .error .dataMissing ∧ decode (.bus8 0x80000 none) = .error .keyTooWide := by decide

/-- The calls by name of R72 and R74, with the operands of R82's examples. -/
theorem test_decode_calls : decode (.call .read16 [1, 0x8800]) = .ok (.read16 .cpu1 0x8800) ∧
    decode (.call .write16 [1, 0x8800, 0xBEEF]) = .ok (.write16 .cpu1 0x8800 0xBEEF) ∧
    decode (.call .decodeColor [0x07]) = .ok (.decodeColor 0x07) ∧
    decode (.call .renderTile [1, 0]) = .ok (.renderTile 1 0) ∧ decode (.call .composeFrame []) = .ok .composeFrame ∧
    decode (.call .loopIter []) = .ok .loopIter ∧ decode (.call .handleInterrupts [4]) = .ok (.handleInterrupts 4) ∧
    decode (.call .vblankService []) = .ok .vblankService ∧ decode (.call .reset []) = .ok .reset := by decide

theorem test_decode_build_calls :
    decode (.call .buildColors (List.replicate 32 0xC0)) = .ok (.buildColors (Vector.replicate 32 0xC0)) ∧
    decode (.call .buildPalettes (List.replicate 256 0x1F ++ List.replicate 96 0xAE)) =
      .ok (.buildPalettes (Vector.replicate 256 0x1F) (Vector.replicate 32 ⟨0xAE, 0xAE, 0xAE⟩)) := by decide +kernel

/-- R151, R140, R77: operands outside a signature are refused. -/
theorem test_decode_bad_calls : decode (.call .renderTile [256, 0]) = .error (.badOperands .renderTile) ∧
    decode (.call .renderTile [0, 64]) = .error (.badOperands .renderTile) ∧
    decode (.call .read16 [0, 0x8800]) = .error (.badOperands .read16) ∧
    decode (.call .buildColors (List.replicate 31 0)) = .error (.badOperands .buildColors) := by decide

/-- The step runs the word stored for it, first thing after reset. -/
theorem test_step_runs_the_word : ∃ t, step (State.reset.withFetchWord 24 0xAB058800) = .next t ∧
    t.mem = [(0x8800, 0xAB)] ∧ t.requests = [] := ⟨_, rfl, rfl, rfl⟩

/-! ### Code ROM: V2, PG5 -/

theorem test_rom1Rd : answers (.rom1Rd 0x3FFF) booted (.byte 0xFE) = true := by decide +kernel
theorem test_rom2Rd : answers (.rom2Rd 0x0FFF) booted (.byte 0xFD) = true := by decide +kernel
theorem test_rom2RdHole : answers (.rom2RdHole 0x1000) booted (.byte 0x00) = true ∧
    leaves (.rom2RdHole 0x1000) booted (fun t => decide (t.diag = [⟨.rom2, 0x1000, 0x00⟩])) = true := by decide +kernel
theorem test_rom3Rd : answers (.rom3Rd 0x0FFF) booted (.byte 0xFC) = true := by decide +kernel
theorem test_rom3RdHole : faults (.rom3RdHole 0x1000) booted (.unmappedAddress .cpu3 0x1000 .read) = true := by
  decide +kernel
theorem test_romWr_protected : faults (.romWr .cpu2 0x0FFF 0xA5) State.reset (.readOnlyWrite .cpu2 0x0FFF 0xA5) = true := by
  decide
theorem test_romWr_override : leaves (.romWr .cpu2 0x0FFF 0xA5) writable
    (fun t => decide (t.rom2 = [(0x0FFF, 0xA5)] ∧ t.rom1 = [] ∧ t.rom3 = [] ∧ t.mem = [])) = true := by decide
theorem test_romWrHole_protected :
    faults (.romWrHole .cpu3 0x3FFF 0x5A) State.reset (.readOnlyWrite .cpu3 0x3FFF 0x5A) = true := by decide
theorem test_romWrHole_override :
    faults (.romWrHole .cpu2 0x1000 0x01) writable (.unmappedAddress .cpu2 0x1000 .write) = true := by decide

/-! ### MMIO: V3 -/

theorem test_dipRd : answers (.dipRd .cpu2 0x6804) State.reset (.byte 0x02) = true ∧
    answers (.dipRd .cpu2 0x6807) State.reset (.byte 0x00) = true := by decide
theorem test_sndWr : leaves (.sndWr .cpu3 0x681F 0x5A) State.reset
    (fun t => decide (t.diag = [⟨.sound, 0x681F, 0x5A⟩] ∧ t.mem = [])) = true := by decide
theorem test_irq1Wr : leaves (.irq1Wr .cpu1 0x80) State.reset (fun t => decide (t.ie = ⟨true, false, false⟩)) = true := by
  decide
theorem test_irq2Wr : leaves (.irq2Wr .cpu1 0x02) State.reset
    (fun t => decide (t.ie = ⟨false, true, false⟩ ∧ t.halt2 = true)) = true := by decide
theorem test_nmi3Wr : leaves (.nmi3Wr .cpu1 0x00) State.reset (fun t => decide (t.ie = ⟨false, false, true⟩)) = true ∧
    leaves (.nmi3Wr .cpu1 0x01) { State.reset with ie := ⟨true, true, true⟩ }
      (fun t => decide (t.ie = ⟨true, true, false⟩)) = true := by decide
theorem test_haltWr : leaves (.haltWr .cpu1 0x80) State.reset (fun t => !t.halt2 && !t.halt3) = true ∧
    leaves (.haltWr .cpu2 0x00) { State.reset with halt2 := false, halt3 := false }
      (fun t => t.halt2 && t.halt3) = true := by decide
theorem test_latchUnimplWr : leaves (.latchUnimplWr .cpu3 0x6827 0x5A) State.reset
    (fun t => decide (t.diag = [⟨.latch, 0x6827, 0x5A⟩])) = true := by decide
theorem test_wdogWr : leaves (.wdogWr .cpu3 0x5A) State.reset (fun t => decide (t.diag = [] ∧ t.mem = [])) = true := by
  decide
theorem test_n06Rd : answers (.n06Rd .cpu2 0x7100) State.reset (.byte 0x10) = true ∧
    leaves (.n06Rd .cpu2 0x7100) State.reset (fun t => decide (t.diag = [⟨.namco06xx, 0x7100, 0x10⟩])) = true := by decide
theorem test_n06Wr : leaves (.n06Wr .cpu3 0x7000 0x5A) State.reset
    (fun t => decide (t.diag = [⟨.namco06xx, 0x7000, 0x5A⟩])) = true := by decide
theorem test_starWr : leaves (.starWr .cpu3 0xA005 0x5A) State.reset
    (fun t => decide (t.diag = [⟨.starfield, 0xA005, 0x5A⟩])) = true := by decide
theorem test_flipWr : leaves (.flipWr .cpu3 0x5A) State.reset
    (fun t => decide (t.diag = [⟨.flipscreen, 0xA007, 0x5A⟩])) = true := by decide
theorem test_unmappedRd :
    faults (.unmappedRd .cpu1 0x6820) State.reset (.unmappedAddress .cpu1 0x6820 .read) = true := by decide
theorem test_unmappedWr : faults (.unmappedWr .cpu3 0xA006 0x5A) State.reset (.unmappedAddress .cpu3 0xA006 .write) = true ∧
    leaves (.unmappedWr .cpu3 0xA006 0x5A) State.reset (fun t => decide (t.mem = [])) = true := by decide

/-! ### RAM and 16-bit accesses: V4, PG1, PG4 -/

theorem test_ramRd : answers (.ramRd .cpu3 0x8800) (State.reset.setMem [(0x8800, 0xAB)]) (.byte 0xAB) = true ∧
    answers (.ramRd .cpu2 0x8000) State.reset (.byte 0x00) = true := by decide
theorem test_ramWr : leaves (.ramWr .cpu2 0x8800 0x00) (State.reset.setMem [(0x8800, 0xAB)])
    (fun t => decide (t.mem = [])) = true ∧
    leaves (.ramWr .cpu3 0x9BFF 0xFF) (State.reset.setMem [(0x8800, 0xAB)])
      (fun t => decide (t.mem = [(0x8800, 0xAB), (0x9BFF, 0xFF)])) = true := by decide
theorem test_read16 : answers (.read16 .cpu2 0x0FFF) booted (.word 0x00FD) = true ∧
    answers (.read16 .cpu1 0x70FF) State.reset (.word 0x1010) = true := by decide +kernel
theorem test_read16_faults : faults (.read16 .cpu1 0xFFFF) State.reset (.unmappedAddress .cpu1 0xFFFF .read) = true ∧
    faults (.read16 .cpu1 0x6807) State.reset (.unmappedAddress .cpu1 0x6808 .read) = true := by decide
theorem test_write16 : leaves (.write16 .cpu1 0x87FF 0x1234) State.reset
    (fun t => decide (t.mem = [(0x87FF, 0x34), (0x8800, 0x12)])) = true ∧
    leaves (.write16 .cpu1 0x6822 0x0100) State.reset (fun t => t.ie.c3 && !t.halt2 && !t.halt3) = true := by decide
theorem test_write16_faults : leaves (.write16 .cpu1 0x9BFF 0x1234) State.reset (fun t => decide
    (t.mem = [(0x9BFF, 0x34)] ∧ t.fault = some (.unmappedAddress .cpu1 0x9C00 .write))) = true ∧
    leaves (.write16 .cpu1 0x7FFF 0x1234) State.reset (fun t => decide
      (t.mem = [] ∧ t.fault = some (.unmappedAddress .cpu1 0x7FFF .write))) = true := by decide

/-! ### Ports: V5 -/

theorem test_port0Wr : leaves (.port0Wr 0x77) State.reset (fun t => decide (t.port0 = 0x77 ∧ t.diag = [])) = true := by
  decide
theorem test_portWrOther : leaves (.portWrOther .cpu2 0x00 0x77) State.reset
    (fun t => decide (t.port0 = 0x00 ∧ t.diag = [⟨.port, 0x0000, 0x77⟩])) = true := by decide
theorem test_portRd : answers (.portRd .cpu1 0x00) (State.reset.setPort0 0x77) (.byte 0x00) = true ∧
    leaves (.portRd .cpu3 0xFF) State.reset (fun t => decide (t.diag = [⟨.port, 0x00FF, 0x00⟩])) = true := by decide

/-! ### Tables: V6 -/

theorem test_decodeColor : answers (.decodeColor 0x5A) State.reset (.color ⟨0x47, 0x68, 0x51⟩) = true ∧
    answers (.decodeColor 0xC7) State.reset (.color ⟨0xFF, 0x00, 0xFF⟩) = true := by decide
theorem test_buildColors : (buildColors .default fixtureProm)[9] = ⟨0x00, 0x68, 0x51⟩ ∧
    (buildColors .default fixtureProm)[30] = ⟨0x21, 0x97, 0x51⟩ := by decide +kernel
theorem test_buildPalettes : booted.palettes[1][1] = ⟨0xFF, 0xFF, 0x00⟩ ∧
    booted.palettes[63][3] = ⟨0xDE, 0x00, 0xAE⟩ := by decide +kernel
theorem test_buildPalettes_refuses :
    faults (.buildPalettes (lookupWith 0x20) booted.colors) State.reset (.tableBuildError .charLookup 5 0x20) = true ∧
    leaves (.buildPalettes (lookupWith 0x1F) booted.colors) State.reset (fun t => decide (t.fault = none)) = true := by
  decide +kernel

/-! ### Tiles and frames: V7, V8, PG3 -/

/-- V7.2: the entries of four pixels of tile 4. -/
theorem test_renderTile_entries : tileEntry fixtureTiles .default 4 0 0 = 2 ∧ tileEntry fixtureTiles .default 4 4 0 = 3 ∧
    tileEntry fixtureTiles .default 4 2 0 = 1 ∧ tileEntry fixtureTiles .default 4 3 7 = 2 := by decide +kernel
/-- V7.1, PG3: a pixel of tile 1 in palette 1, and one of tile 4 in palette 7. -/
theorem test_renderTile : (booted.renderTile 1 1)[3][5] = ⟨0xFF, 0x00, 0xFF, 0xFF⟩ ∧
    (booted.renderTile 4 7)[0][4] = ⟨0xDE, 0x00, 0xAE, 0xFF⟩ := by decide +kernel
/-- PG3: slots 0x041 (masks) and 0x3DD (top strip). -/
theorem test_composeFrame : pixelAt painted 216 24 ⟨0xFF, 0x00, 0xFF, 0xFF⟩ = true ∧
    pixelAt painted 4 0 ⟨0xDE, 0x00, 0xAE, 0xFF⟩ = true := by decide +kernel
/-- PG3: slot 0x042 draws tile 0 in palette 1; slot 0x043 and the hidden slots leave tile 0 in palette 0. -/
theorem test_composeFrame_rest : pixelAt painted 223 32 ⟨0xFF, 0xFF, 0xFF, 0xFF⟩ = true ∧
    pixelAt painted 216 40 ⟨0x00, 0x00, 0x00, 0xFF⟩ = true ∧
    pixelAt painted 223 272 ⟨0x00, 0x00, 0x00, 0xFF⟩ = true := by decide +kernel

/-! ### The loop: V9, PG2, PG4 -/

/-- V9.3: from reset, one iteration of 4 cycles. -/
theorem test_loopIter_quiet : leaves .loopIter (scripted [quiet 4 1] [quiet 9 1] [quiet 9 1]) (fun t => decide
    (t.csi = 4 ∧ t.engines.c1.code = 1 ∧ t.engines.c2.code = 0 ∧ t.engines.c3.code = 0)) = true := by decide
/-- PG2, iteration 1: CPU1's release lets CPU2 and CPU3 step at once. -/
theorem test_loopIter_release : leaves .loopIter
    (scripted [oneWrite 0x6823 0x01 10 0] [oneWrite 0x6821 0x01 4 0] [oneWrite 0x6822 0x00 4 0]) (fun t => decide
      (t.halt2 = false ∧ t.halt3 = false ∧ t.ie = ⟨false, true, true⟩ ∧ t.csi = 10)) = true := by decide
/-- V9.1, the overshoot of k = 13. -/
theorem test_handleInterrupts : leaves (.handleInterrupts 4) (State.reset.setCsi 51195) (fun t => decide (t.csi = 51199)) =
    true ∧ leaves (.handleInterrupts 13) (State.reset.setCsi 51194) (fun t => decide
      (t.csi = 0 ∧ t.frameOut.length = 1 ∧ t.irqOut = [])) = true := by decide +kernel
/-- V9.2, sixth line. -/
theorem test_vblankService : leaves .vblankService { State.reset with
      ie := ⟨true, true, true⟩
      port0 := 0x34
      engines := ⟨⟨0, [], [quiet 0 0]⟩, ⟨0, [], [quiet 0 0]⟩, ⟨0, [], [quiet 0 0]⟩⟩ } (fun t => decide
    (t.irqOut = [(.cpu1, .maskable 0x34), (.cpu2, .maskable 0x00), (.cpu3, .nmi)] ∧
      t.ie = ⟨false, false, false⟩ ∧ t.halt2 = false ∧ t.halt3 = false ∧ t.frameOut.length = 1)) = true := by
  decide +kernel
/-- V10.4: `reset()` of a faulted machine. -/
theorem test_reset : leaves .reset { stuck with csi := 7, ie := ⟨true, true, true⟩, mem := [(0x8000, 0x01)] }
    (fun t => decide (t.fault = none ∧ t.csi = 0 ∧ t.ie = ⟨false, false, false⟩ ∧ t.mem = [])) = true := by
  decide +kernel
/-- V6.4: with a bad lookup byte reset does not complete. -/
theorem test_reset_stops : faults .reset { State.reset with config := { fixtureConfig with
    charLookup := lookupWith 0x20 } } (.tableBuildError .charLookup 5 0x20) = true := by decide +kernel

/-! ### Witnesses: a state and operands that meet the hypotheses of each statement -/

theorem witness_DecodeOfEncodeIsTheOperation : Instr.wf (.ramWr .cpu2 0x8BFF 0x5A) = true ∧
    Instr.wf (.portWrOther .cpu2 0x00 0x77) = true ∧ Instr.wf (.write16 .cpu3 0xFFFF 0x1234) = true := by decide

theorem witness_DecoderAnswersOnlyOperations : decode (.bus8 0x7A006 (some 0x5A)) = .ok (.unmappedWr .cpu3 0xA006 0x5A) := by
  decide

theorem witness_ReservedCpuFieldIsRefused : (0x4FFFF < 0x80000 ∧ 0x4FFFF / 0x10000 % 4 = 0) ∧
    (0x4FF < 0x800 ∧ 0x4FF / 0x100 % 4 = 0) := by decide

theorem witness_StepRunsTheDecodedOperation :
    (State.reset.setRequests [.port 0x500 (some 0x34)]).requests = [.port 0x500 (some 0x34)] ∧
    decode (.port 0x500 (some 0x34)) = .ok (.port0Wr 0x34) ∧ State.reset.requests = [] := by decide

theorem witness_NoOperationRunsAfterAFault : stuck.fault = some (.unmappedAddress .cpu2 0x4000 .read) ∧
    stuck.requests = [] ∧ Instr.loopIter ≠ .reset := by decide

theorem witness_CodeRomReadsAnswerTheCpusOwnRom : Ready State.reset ∧ (0x3FFF : Addr).toNat ≤ 0x3FFF ∧
    (0x0FFF : Addr).toNat ≤ 0x0FFF := by decide

theorem witness_Cpu2HoleReadsZeroAndLogs : Ready State.reset ∧ 0x1000 ≤ (0x1000 : Addr).toNat ∧
    (0x1000 : Addr).toNat ≤ 0x3FFF := by decide

theorem witness_Cpu3HoleReadIsFatal : Ready State.reset ∧ 0x1000 ≤ (0x3FFF : Addr).toNat ∧
    (0x3FFF : Addr).toNat ≤ 0x3FFF := by decide

theorem witness_RomWriteNeedsTheOverride : (Ready writable ∧ inRomArray .cpu1 0x3FFF = true ∧
    writable.config.writableRom = true) ∧ (Ready State.reset ∧ inRomArray .cpu3 0x0FFF = true ∧
    State.reset.config.writableRom = false) := by decide

theorem witness_RomHoleWriteIsFatal : Ready writable ∧ Cpu.cpu2 ≠ .cpu1 ∧ 0x1000 ≤ (0x3FFF : Addr).toNat ∧
    (0x3FFF : Addr).toNat ≤ 0x3FFF := by decide

theorem witness_RomWriteReadsBackForThatCpuOnly : Ready writable ∧ inRomArray .cpu2 0x0FFF = true ∧
    writable.config.writableRom = true ∧ (writable.romOf .cpu2).wf = true := by decide

/-- For the statements whose one hypothesis is that the machine can run: DipReadAnswersTheConfiguredByte,
EnableLatchesStoreTheTest, HaltLatchSetsBothFlags, ByteAccessIsTheDecodedOperation, DecodeColorAddsTheWeights,
BuildColorsDecodesEachByte, ComposedFrameIsTheClosedForm. -/
theorem witness_ready : Ready State.reset := rfl

theorem witness_SinkWritesOnlyLog : Ready State.reset ∧ (0x6800 ≤ (0x681F : Addr).toNat ∧ (0x681F : Addr).toNat ≤ 0x681F) ∧
    (0x6824 ≤ (0x6827 : Addr).toNat ∧ (0x6827 : Addr).toNat ≤ 0x6827) ∧
    (0x7000 ≤ (0x7100 : Addr).toNat ∧ (0x7100 : Addr).toNat ≤ 0x7100) ∧
    (0xA000 ≤ (0xA005 : Addr).toNat ∧ (0xA005 : Addr).toNat ≤ 0xA005) := by decide

theorem witness_Namco06ReadsReady : Ready State.reset ∧ 0x7000 ≤ (0x7100 : Addr).toNat ∧
    (0x7100 : Addr).toNat ≤ 0x7100 := by decide

theorem witness_UnmappedAccessIsFatal : Ready State.reset ∧ inUnmappedRead 0x8C00 = true ∧
    inUnmappedWrite 0xA006 = true := by decide

theorem witness_RamReadAnswersTheSharedCell : Ready State.reset ∧ inRamWindow 0x9BFF = true := by decide

theorem witness_RamWriteIsSeenByEveryCpu : Ready State.reset ∧ State.reset.mem.wf = true ∧
    inRamWindow 0x8000 = true := by decide

theorem witness_MapsAgreeOutsideTheRomRegion : Ready State.reset ∧ 0x4000 ≤ (0x4000 : Addr).toNat := by decide

theorem witness_Read16IsTwoByteReads : Ready State.reset ∧
    (∃ t, read8 .cpu1 0xFFFF State.reset = .raised t) ∧
    (∃ lo t u, read8 .cpu1 0x8BFF State.reset = .done lo t ∧
      read8 .cpu1 (BitVec.ofNat 16 ((0x8BFF : Addr).toNat + 1)) t = .raised u) ∧
    (∃ lo t hi u, read8 .cpu1 0x87FF State.reset = .done lo t ∧
      read8 .cpu1 (BitVec.ofNat 16 ((0x87FF : Addr).toNat + 1)) t = .done hi u) :=
  ⟨rfl, ⟨_, rfl⟩, ⟨_, _, _, rfl, rfl⟩, ⟨_, _, _, _, rfl, rfl⟩⟩

theorem witness_Read16InRamAnswersLittleEndian : Ready State.reset ∧ inRamWindow 0x8BFE = true ∧
    inRamWindow (0x8BFE + 1) = true := by decide

theorem witness_Write16InRamIsLittleEndian : Ready State.reset ∧ State.reset.mem.wf = true ∧
    inRamWindow 0x87FF = true ∧ inRamWindow (0x87FF + 1) = true := by decide

theorem witness_Write16IsTwoByteWrites : Ready State.reset ∧
    (0x1234 : Half).toNat = (0x12 : Byte).toNat * 256 + (0x34 : Byte).toNat ∧
    (∃ t, write8 .cpu1 0xFFFF 0x34 State.reset = .raised t) ∧
    (∃ t u, write8 .cpu1 0x9BFF 0x34 State.reset = .done () t ∧
      write8 .cpu1 (BitVec.ofNat 16 ((0x9BFF : Addr).toNat + 1)) 0x12 t = .raised u) ∧
    (∃ t u, write8 .cpu1 0x87FF 0x34 State.reset = .done () t ∧
      write8 .cpu1 (BitVec.ofNat 16 ((0x87FF : Addr).toNat + 1)) 0x12 t = .done () u) :=
  ⟨rfl, by decide, ⟨_, rfl⟩, ⟨_, _, rfl, rfl⟩, ⟨_, _, rfl, rfl⟩⟩

theorem witness_Write16OffTheEndKeepsTheLowByte : Ready State.reset ∧
    (0x9BFF : Addr) ∈ [0x8BFF#16, 0x93FF#16, 0x9BFF#16] := by decide

theorem witness_OnlyCpu1PortZeroLatches : Ready State.reset ∧ ¬(Cpu.cpu2 = .cpu1 ∧ (0x00 : Byte) = 0x00) ∧
    ¬(Cpu.cpu1 = .cpu1 ∧ (0x01 : Byte) = 0x00) := by decide

theorem witness_ReadsChangeNoCell : isRead (.n06Rd .cpu2 0x7100) ∧
    ∃ t, exec (.n06Rd .cpu2 0x7100) State.reset = .next t ∧ t.fault = none := ⟨trivial, _, rfl, rfl⟩

theorem witness_ReadsRepeat : isRead (.read16 .cpu1 0x87FF) ∧
    ∃ t, exec (.read16 .cpu1 0x87FF) State.reset = .next t ∧ t.fault = none := ⟨trivial, _, rfl, rfl⟩

theorem witness_WritesAreIdempotent : State.reset.mem.wf = true ∧ (∀ d, (State.reset.romOf d).wf = true) ∧
    ∃ t, exec (decodeWrite .cpu1 0x8800 0xAB) State.reset = .next t ∧ t.fault = none :=
  ⟨rfl, fun d => by cases d <;> rfl, _, rfl, rfl⟩

theorem witness_EachCellHasItsWriters : ¬runsEngines (.port0Wr 0x34) ∧ ¬runsEngines .composeFrame ∧
    (∃ t, exec (.port0Wr 0x34) State.reset = .next t ∧ t.port0 ≠ State.reset.port0) ∧
    (∃ t, exec (.write16 .cpu1 0x6822 0x0100) State.reset = .next t ∧ t.halt2 ≠ State.reset.halt2 ∧
      t.ie.c3 ≠ State.reset.ie.c3) ∧
    (∃ t, exec (.write16 .cpu1 0x6820 0x0101) State.reset = .next t ∧ t.ie.c1 ≠ State.reset.ie.c1 ∧
      t.ie.c2 ≠ State.reset.ie.c2) ∧
    (∃ t, exec .composeFrame State.reset = .next t ∧ t.frame ≠ State.reset.frame) ∧
    (∃ t, exec (.ramWr .cpu1 0x9BFF 0x5A) State.reset = .next t ∧ State.reset.mem.wf = true ∧
      t.mem.read 0x9BFF ≠ State.reset.mem.read 0x9BFF) ∧
    (∃ t, exec (.romWr .cpu2 0x0FFF 0x5A) writable = .next t ∧ (writable.romOf .cpu2).wf = true ∧
      (t.romOf .cpu2).read 0x0FFF ≠ (writable.romOf .cpu2).read 0x0FFF) ∧
    (∃ t, exec (.write16 .cpu3 0x0FFE 0x5A00) writable = .next t ∧ (writable.romOf .cpu3).wf = true ∧
      (t.romOf .cpu3).read 0x0FFF ≠ (writable.romOf .cpu3).read 0x0FFF) ∧
    (∃ t, exec (.rom3RdHole 0x1000) State.reset = .next t ∧ t.fault ≠ State.reset.fault) ∧
    (∃ t, exec (.rom2RdHole 0x1000) State.reset = .next t ∧ t.diag ≠ State.reset.diag) :=
  ⟨id, id, ⟨_, rfl, by decide⟩, ⟨_, rfl, by decide, by decide⟩, ⟨_, rfl, by decide, by decide⟩,
    ⟨_, rfl, fun h => absurd (congrArg (fun f => (canvasOf f 0 0).a) h) (by decide +kernel)⟩, ⟨_, rfl, rfl, by decide⟩,
    ⟨_, rfl, rfl, by decide⟩, ⟨_, rfl, rfl, by decide⟩, ⟨_, rfl, by decide⟩, ⟨_, rfl, by decide⟩⟩

theorem witness_ConfigurationAndTablesAreFixed : (∃ t, exec (.haltWr .cpu3 0x01) State.reset = .next t) ∧
    Instr.haltWr .cpu3 0x01 ≠ .reset := ⟨⟨_, rfl⟩, by decide⟩

theorem witness_RomsAreProtected : State.reset.config.writableRom = false ∧ Instr.romWr .cpu1 0x0000 0x5A ≠ .reset ∧
    ∃ t, exec (.romWr .cpu1 0x0000 0x5A) State.reset = .next t := ⟨rfl, by decide, _, rfl⟩

theorem witness_StreamsOnlyGrow : Instr.portRd .cpu1 0x05 ≠ .reset ∧
    ∃ t, exec (.portRd .cpu1 0x05) State.reset = .next t ∧ t.diag ≠ [] := ⟨by decide, _, rfl, by decide⟩

theorem witness_DecodeColorIsInjective : Ready State.reset ∧ State.reset.config.colorBits.wf = true ∧
    exec (.decodeColor 0x5A) State.reset = exec (.decodeColor 0x5A) State.reset := ⟨rfl, by decide, rfl⟩

theorem witness_BuildPalettesIndexesTheColors : Ready State.reset ∧
    (∀ i : Fin 256, (fixtureLookup[i]).toNat < 32) ∧
    (fixtureLookup[4 * (63 : Fin 64).val + (3 : Fin 4).val]).toNat = (31 : Fin 32).val := by decide +kernel

theorem witness_BuildPalettesRefusesTheFirstBadByte : Ready State.reset ∧
    32 ≤ ((lookupWith 0x20)[(5 : Fin 256)]).toNat ∧
    ∀ j : Fin 256, j < 5 → ((lookupWith 0x20)[j]).toNat < 32 := by decide +kernel

theorem witness_RenderTilePaintsEachPixel : Ready booted ∧
    (let at_ := booted.config.tileLayout[8 * (0 : Fin 8).val + (4 : Fin 8).val]
     let plane0 := (booted.config.tileRom.read (16 * (4 : Byte).toNat + at_.byte0.val)).getLsbD at_.bit0.val
     let plane1 := (booted.config.tileRom.read (16 * (4 : Byte).toNat + at_.byte1.val)).getLsbD at_.bit1.val
     (3 : Fin 4).val = 2 * plane1.toNat + plane0.toNat) := by decide +kernel

theorem witness_UniformTilesAreOneColor : Ready booted ∧ booted.config.tileLayout = TileLayout.default ∧
    (∀ k, k < 16 → booted.config.tileRom.read (16 * (0 : Byte).toNat + k) = 0x00) ∧
    (∀ k, k < 16 → booted.config.tileRom.read (16 * (1 : Byte).toNat + k) = 0xFF) ∧
    (∀ k, k < 16 → booted.config.tileRom.read (16 * (2 : Byte).toNat + k) = 0x0F) ∧
    (∀ k, k < 16 → booted.config.tileRom.read (16 * (3 : Byte).toNat + k) = 0xF0) := by decide +kernel

theorem witness_SlotIsReadThroughCpu1sView : Ready State.reset ∧ 0x3FF < 0x400 := by decide

/-- Two machines that differ in a hidden slot, in unused bits, in the previous frame and in shared RAM. -/
theorem witness_FrameKeepsNothingElse :
    let s := State.reset.setMem [(0x8040, 0x01), (0x8440, 0x41)]
    let t := (State.reset.setFrame (Vector.replicate 288 (Vector.replicate 224 ⟨1, 2, 3, 4⟩))).setMem
      [(0x8000, 0x01), (0x8040, 0x81), (0x8440, 0x01), (0x8800, 0x5A)]
    Ready s ∧ Ready t ∧ s.config.tileRom = t.config.tileRom ∧ s.config.tileLayout = t.config.tileLayout ∧
    s.palettes = t.palettes ∧ (∀ i, i < 0x400 → i ∉ hiddenSlots →
      s.mem.read (0x8000 + i) &&& 0x7F = t.mem.read (0x8000 + i) &&& 0x7F ∧
      s.mem.read (0x8400 + i) &&& 0x3F = t.mem.read (0x8400 + i) &&& 0x3F) :=
  ⟨rfl, rfl, rfl, rfl, rfl, by decide +kernel⟩

theorem witness_IterationStepsTheRunningCpus :
    let s := scripted [quiet 51199 1] [quiet 4 1] [quiet 4 1]
    Ready s ∧ s.engines.c1.steps = quiet 51199 1 :: [] ∧ s.engines.c2.steps = quiet 4 1 :: [] ∧
    s.engines.c3.steps = quiet 4 1 :: [] ∧ s.csi + 51199 < 51200 := by decide

theorem witness_HaltLatchActsInTheSameIteration :
    (let s := scripted [oneWrite 0x6823 0x00 4 1] [quiet 4 1] [quiet 4 1]
     Ready s ∧ s.csi + 4 < 51200 ∧ s.engines.c3.steps = quiet 4 1 :: [] ∧
     s.engines.c1.steps = oneWrite 0x6823 0x00 4 1 :: [] ∧ s.engines.c2.steps = quiet 4 1 :: []) ∧
    (let s := (scripted [quiet 4 1] [oneWrite 0x6823 0x01 4 1] [quiet 4 1]).setHalt2 false
     Ready s ∧ s.csi + 4 < 51200 ∧ s.engines.c3.steps = quiet 4 1 :: [] ∧ s.halt2 = false ∧
     s.engines.c1.steps = quiet 4 1 :: [] ∧ s.engines.c2.steps = oneWrite 0x6823 0x01 4 1 :: []) := by decide

theorem witness_VblankCheckComparesWithTheThreshold : Ready (State.reset.setCsi 51196) ∧
    (State.reset.setCsi 51196).csi + 3 < 51200 ∧ 51200 ≤ (State.reset.setCsi 51196).csi + 4 := by decide

/-- All three enables set, each engine accepting without a transaction. -/
def armed : State := { State.reset with
  ie := ⟨true, true, true⟩
  engines := ⟨⟨0, [], [quiet 0 0]⟩, ⟨0, [], [quiet 0 0]⟩, ⟨0, [], [quiet 0 0]⟩⟩ }

theorem witness_VblankServiceServesTheThreeCpus : Ready armed ∧
    (∀ c, armed.ie.get c = true → ∃ k d rest, (armed.engines.get c).accepts = quiet k d :: rest) ∧
    Ready State.reset ∧ ∀ c, State.reset.ie.get c = false :=
  ⟨rfl, fun c _ => by cases c <;> exact ⟨0, 0, [], rfl⟩, rfl, fun c => by cases c <;> rfl⟩

theorem witness_EveryVblankHandsOverOneFrame : ∃ t, exec .vblankService armed = .next t ∧ t.fault = none :=
  ⟨_, rfl, rfl⟩

theorem witness_AtMostOneServicePerIteration :
    (∃ t, exec .loopIter (scripted [quiet 51199 1] [] []) = .next t ∧ t.fault = none ∧ t.csi = 51199) ∧
    (∃ t, exec .loopIter (scripted [quiet 51200 1] [] []) = .next t ∧ t.fault = none ∧ t.csi = 0) :=
  ⟨⟨_, rfl, rfl, rfl⟩, ⟨_, rfl, rfl, rfl⟩⟩

theorem witness_VblankPeriod : (let s := scripted (List.replicate 3 (quiet 51199 0)) [] []
     Ready s ∧ s.requests = [] ∧ s.csi = 0 ∧ s.halt2 = true ∧ s.halt3 = true ∧ s.ie = ⟨false, false, false⟩ ∧
     s.engines.c1.steps = List.replicate 3 (quiet 51199 0) ∧ 1 ≤ 51199) ∧
    (let s := scripted (List.replicate 3 (quiet 0 0)) [] []
     Ready s ∧ s.requests = [] ∧ s.csi = 0 ∧ s.halt2 = true ∧ s.halt3 = true ∧ s.ie = ⟨false, false, false⟩ ∧
     s.engines.c1.steps = List.replicate 3 (quiet 0 0)) := by decide

/-- All three enables set, the engine of CPU `c` faulting while it accepts its injection. -/
def faultingAt (c : Cpu) : State := armed.setEngine c ⟨0, [quiet 51200 0], [oneWrite 0x4000 0x01 4 0]⟩

/-- The clauses of an injection's fault: at CPU1, CPU2, CPU3, and from an iteration. -/
theorem witness_FaultEndsTheIteration_injected : (∀ c, Ready (faultingAt c)) ∧
    (∃ u, serviceCpu1 (videoPath (faultingAt .cpu1)) = .raised u) ∧
    (∃ t u, serviceCpu1 (videoPath (faultingAt .cpu2)) = .done () t ∧ serviceCpu2 t = .raised u) ∧
    (∃ t w u, serviceCpu1 (videoPath (faultingAt .cpu3)) = .done () t ∧ serviceCpu2 t = .done () w ∧
      serviceCpu3 w = .raised u) ∧
    (∃ t w x u, stepEngine .cpu1 (faultingAt .cpu1) = .done 51200 t ∧ stepUnlessHalted .cpu2 t = .done () w ∧
      stepUnlessHalted .cpu3 w = .done () x ∧ checkVblank 51200 x = .raised u) :=
  ⟨fun c => by cases c <;> rfl, ⟨_, rfl⟩, ⟨_, _, rfl, rfl⟩, ⟨_, _, _, rfl, rfl, rfl⟩, ⟨_, _, _, _, rfl, rfl, rfl, rfl⟩⟩

theorem witness_FaultEndsTheIteration :
    Ready (scripted [oneWrite 0x4000 0x01 4 0] [] []) ∧
    Ready ((scripted [quiet 4 0] [oneWrite 0x4000 0x01 4 0] []).setHalt2 false) ∧
    Ready ((scripted [quiet 4 0] [] [oneWrite 0x4000 0x01 4 0]).setHalt3 false) ∧
    (∃ u, stepEngine .cpu1 (scripted [oneWrite 0x4000 0x01 4 0] [] []) = .raised u) ∧
    (∃ k t u, stepEngine .cpu1 ((scripted [quiet 4 0] [oneWrite 0x4000 0x01 4 0] []).setHalt2 false) = .done k t ∧
      t.halt2 = false ∧ stepEngine .cpu2 t = .raised u) ∧
    (∃ k t w u, stepEngine .cpu1 ((scripted [quiet 4 0] [] [oneWrite 0x4000 0x01 4 0]).setHalt3 false) = .done k t ∧
      stepUnlessHalted .cpu2 t = .done () w ∧ w.halt3 = false ∧ stepEngine .cpu3 w = .raised u) :=
  ⟨rfl, rfl, rfl, ⟨_, rfl⟩, ⟨_, _, _, rfl, rfl, rfl⟩, ⟨_, _, _, _, rfl, rfl, rfl, rfl⟩⟩

theorem witness_EarlierTransactionsStandAfterAFault : inRamWindow 0x8800 = true ∧
    (let s := scripted [⟨[.write8 0x8800 0x01, .write16 0x8BFF 0x1234], false, 16, 0⟩] [] []
     Ready s ∧ s.engines.c1.steps = ⟨[.write8 0x8800 0x01, .write16 0x8BFF 0x1234], false, 16, 0⟩ :: []) ∧
    (let s := scripted [⟨[.write8 0x8800 0x01], true, 16, 0⟩] [] []
     Ready s ∧ s.engines.c1.steps = ⟨[.write8 0x8800 0x01], true, 16, 0⟩ :: []) := by decide

theorem witness_ResetRestoresEveryCell : LookupOk State.reset.config := reset_tables_are_built.1

theorem witness_ResetStopsAtABadLookupProm :
    let s : State := { State.reset with config := { fixtureConfig with charLookup := lookupWith 0x20 } }
    32 ≤ (s.config.charLookup[(5 : Fin 256)]).toNat ∧
    ∀ j : Fin 256, j < 5 → (s.config.charLookup[j]).toNat < 32 := by decide +kernel

/-- A machine with a byte in RAM and a write presented to it. -/
def busy : State := { State.reset with mem := [(0x8800, 0x01)], requests := [.bus8 0x59BFF (some 0x5A)] }

theorem witness_EveryStepKeepsTheInvariant : Inv busy ∧ ∃ t, step busy = .next t ∧ t.mem.read 0x9BFF = 0x5A := by
  refine ⟨⟨by decide +kernel, by decide, by decide, fun c => by cases c <;> decide, fun _ => ⟨rfl, rfl, rfl⟩,
    fun _ => by decide, fun _ => reset_tables_are_built⟩, _, rfl, by decide⟩

end Sys2Proof.Tests
end

/-!
# Which operation writes which cell

O33 speaks of every operation that steps no engine. The few cells such an operation can change are named (`Site`), the
sites of one byte write (`writeSites`) and of one operation (`mayChange`) are written down, and one relation
(`ChangesOnly`) says that a state differs from another at permitted sites alone. It is reflexive and transitive, so each
operation is a few elementary updates.
-/
namespace Sys2Proof

/-- `n` differs from the canonical array `m` at the permitted addresses alone, and is canonical again. -/
def Memory.ChangesOnly (p : Nat → Prop) (m n : Memory) : Prop :=
  m.wf = true → n.wf = true ∧ ∀ b, p b ∨ n.read b = m.read b

theorem Memory.ChangesOnly.refl (p : Nat → Prop) (m : Memory) : Memory.ChangesOnly p m m :=
  fun h => ⟨h, fun _ => .inr rfl⟩

/-- Two changes in a row that are each permitted, or absent, are one. -/
theorem permitted_or_eq_trans {α : Type} {q : Prop} {x y z : α} (h : q ∨ y = x) (k : q ∨ z = y) : q ∨ z = x :=
  h.elim .inl fun e => k.imp_right (·.trans e)

theorem Memory.ChangesOnly.trans {p : Nat → Prop} {m n o : Memory} (h : Memory.ChangesOnly p m n)
    (k : Memory.ChangesOnly p n o) : Memory.ChangesOnly p m o := by
  intro hm
  obtain ⟨hn, hread⟩ := h hm
  obtain ⟨ho, kread⟩ := k hn
  exact ⟨ho, fun b => permitted_or_eq_trans (hread b) (kread b)⟩

theorem Memory.ChangesOnly.mono {p q : Nat → Prop} {m n : Memory} (hpq : ∀ b, p b → q b)
    (h : Memory.ChangesOnly p m n) : Memory.ChangesOnly q m n :=
  fun hm => (h hm).imp_right fun hread b => (hread b).imp_left (hpq b)

theorem Memory.ChangesOnly.write {p : Nat → Prop} (m : Memory) {a : Nat} (v : Byte) (ha : p a) :
    Memory.ChangesOnly p m (m.write a v) := by
  refine fun hm => ⟨Memory.write_wf a v hm, fun b => ?_⟩
  by_cases hb : b = a
  · exact .inl (hb ▸ ha)
  · exact .inr (Memory.read_write_other v hm hb)

namespace Machine

open Sys2Proof.Spec

/-- A cell that an operation which steps no engine can change, or one byte of an array. -/
inductive Site where
  | port0
  | halts
  | ie (c : Cpu)
  | frame
  | mem (b : Nat)
  | rom (c : Cpu) (b : Nat)
  | fault
  | diag

/-- `t` differs from `s` at sites that `p` permits, and in its reply. -/
structure ChangesOnly (p : Site → Prop) (s t : State) : Prop where
  port0 : p .port0 ∨ t.port0 = s.port0
  halt2 : p .halts ∨ t.halt2 = s.halt2
  halt3 : p .halts ∨ t.halt3 = s.halt3
  ie : ∀ c, p (.ie c) ∨ t.ie.get c = s.ie.get c
  frame : p .frame ∨ t.frame = s.frame
  mem : Memory.ChangesOnly (fun b => p (.mem b)) s.mem t.mem
  rom : ∀ c, Memory.ChangesOnly (fun b => p (.rom c b)) (s.romOf c) (t.romOf c)
  fault : p .fault ∨ t.fault = s.fault
  diag : p .diag ∨ t.diag = s.diag
  config : t.config = s.config
  colors : t.colors = s.colors
  palettes : t.palettes = s.palettes
  csi : t.csi = s.csi
  irqOut : t.irqOut = s.irqOut
  frameOut : t.frameOut = s.frameOut
  engines : t.engines = s.engines
  requests : t.requests = s.requests

namespace ChangesOnly

variable {p q : Site → Prop} {s t u : State}

theorem refl (p : Site → Prop) (s : State) : ChangesOnly p s s where
  port0 := .inr rfl
  halt2 := .inr rfl
  halt3 := .inr rfl
  ie _ := .inr rfl
  frame := .inr rfl
  mem := .refl _ _
  rom _ := .refl _ _
  fault := .inr rfl
  diag := .inr rfl
  config := rfl
  colors := rfl
  palettes := rfl
  csi := rfl
  irqOut := rfl
  frameOut := rfl
  engines := rfl
  requests := rfl

theorem trans (h : ChangesOnly p s t) (k : ChangesOnly p t u) : ChangesOnly p s u where
  port0 := permitted_or_eq_trans h.port0 k.port0
  halt2 := permitted_or_eq_trans h.halt2 k.halt2
  halt3 := permitted_or_eq_trans h.halt3 k.halt3
  ie c := permitted_or_eq_trans (h.ie c) (k.ie c)
  frame := permitted_or_eq_trans h.frame k.frame
  mem := h.mem.trans k.mem
  rom c := (h.rom c).trans (k.rom c)
  fault := permitted_or_eq_trans h.fault k.fault
  diag := permitted_or_eq_trans h.diag k.diag
  config := k.config.trans h.config
  colors := k.colors.trans h.colors
  palettes := k.palettes.trans h.palettes
  csi := k.csi.trans h.csi
  irqOut := k.irqOut.trans h.irqOut
  frameOut := k.frameOut.trans h.frameOut
  engines := k.engines.trans h.engines
  requests := k.requests.trans h.requests

theorem mono (hpq : ∀ x, p x → q x) (h : ChangesOnly p s t) : ChangesOnly q s t :=
  { h with
    port0 := h.port0.imp_left (hpq _)
    halt2 := h.halt2.imp_left (hpq _)
    halt3 := h.halt3.imp_left (hpq _)
    ie := fun c => (h.ie c).imp_left (hpq _)
    frame := h.frame.imp_left (hpq _)
    mem := h.mem.mono fun _ => hpq _
    rom := fun c => (h.rom c).mono fun _ => hpq _
    fault := h.fault.imp_left (hpq _)
    diag := h.diag.imp_left (hpq _) }

/-! ### The elementary updates -/

theorem setReply (s : State) (r : Reply) : ChangesOnly p s (s.setReply r) :=
  { refl p s with }

theorem setPort0 (s : State) (v : Byte) (h : p .port0) : ChangesOnly p s (s.setPort0 v) :=
  { refl p s with
    port0 := .inl h }

theorem setHalts (s : State) (b b' : Bool) (h : p .halts) : ChangesOnly p s ((s.setHalt2 b).setHalt3 b') :=
  { refl p s with
    halt2 := .inl h
    halt3 := .inl h }

theorem setIe (s : State) (c : Cpu) (b : Bool) (h : p (.ie c)) : ChangesOnly p s (s.setIe c b) :=
  { refl p s with
    ie := fun d => by
      by_cases hd : d = c
      · exact .inl (hd ▸ h)
      · exact .inr (PerCpu.get_set_other s.ie b hd) }

theorem setFrame (s : State) (f : Frame) (h : p .frame) : ChangesOnly p s (s.setFrame f) :=
  { refl p s with
    frame := .inl h }

theorem addDiag (s : State) (sub : Subsystem) (a : Addr) (v : Byte) (h : p .diag) :
    ChangesOnly p s (s.addDiag sub a v) :=
  { refl p s with
    diag := .inl h }

theorem setMem (s : State) (a : Nat) (v : Byte) (h : p (.mem a)) : ChangesOnly p s (s.setMem (s.mem.write a v)) :=
  { refl p s with mem := .write _ v h }

theorem setRom (s : State) (c : Cpu) (a : Nat) (v : Byte) (h : p (.rom c a)) :
    ChangesOnly p s (s.setRom c ((s.romOf c).write a v)) := by
  have hrom : ∀ d, Memory.ChangesOnly (fun b => p (.rom d b)) (s.romOf d)
      ((s.setRom c ((s.romOf c).write a v)).romOf d) := by
    intro d
    by_cases hd : d = c
    · subst hd
      rw [State.setRom_romOf_same]
      exact .write _ v h
    · rw [State.setRom_romOf_other s _ hd]
      exact .refl _ _
  constructor <;> simp [hrom, Memory.ChangesOnly.refl]

/-- A fatal fault writes its record alone (R195). -/
theorem raise {α : Type} (k : FaultKind) (s : State) (h : p .fault) :
    ChangesOnly p s (Machine.raise k s : Ran α).state :=
  { refl p s with fault := .inl h }

/-! ### Results -/

theorem map {α β : Type} {r : Ran α} (f : α → β) (h : ChangesOnly p s r.state) :
    ChangesOnly p s (r.map f).state := by
  rwa [Ran.state_map]

theorem bind {α β : Type} {r : Ran α} {f : α → State → Ran β} (h : ChangesOnly p s r.state)
    (hf : ∀ v t, ChangesOnly p t (f v t).state) : ChangesOnly p s (r.bind f).state := by
  cases r with
  | done v t => exact h.trans (hf v t)
  | raised t => exact h

/-- The frame of an operation adds the reply alone. -/
theorem of_issue {i : Instr} {body : State → Ran Reply} (h : issue i s body = .next t)
    (hb : ChangesOnly p s (body s).state) : ChangesOnly p s t := by
  obtain ⟨_, _, ho⟩ := issue_next h
  obtain ⟨r, rfl⟩ := Ran.outcome_next ho
  exact hb.trans (.setReply _ r)

/-- An operation that only answers changes nothing (R135, R137, R148). -/
theorem of_answer {i : Instr} {answer : State → Reply} (h : issue i s (fun s => .done (answer s) s) = .next t) :
    ChangesOnly p s t :=
  .of_issue h (.refl p s)

end ChangesOnly

/-! ### The byte accesses -/

/-- A byte read can log or fault, and no more (R46). -/
theorem read8_changesOnly {p : Site → Prop} (c : Cpu) (a : Addr) (s : State) (hf : p .fault) (hd : p .diag) :
    ChangesOnly p s (read8 c a s).state := by
  rcases read8_cases c a s with ⟨v, h⟩ | ⟨u, v, h⟩ | h <;> rw [h]
  · exact .refl p s
  · exact .addDiag s u a v hd
  · exact .raise _ s hf

theorem romWrite_changesOnly {p : Site → Prop} (c : Cpu) (a : Addr) (v : Byte) (s : State) (hr : p (.rom c a.toNat))
    (hf : p .fault) : ChangesOnly p s (romWrite c a v s).state := by
  unfold romWrite
  split
  · exact .setRom s c _ v hr
  · exact .raise _ s hf

theorem romHoleWrite_changesOnly {p : Site → Prop} (c : Cpu) (a : Addr) (v : Byte) (s : State) (hf : p .fault) :
    ChangesOnly p s (romHoleWrite c a v s).state := by
  unfold romHoleWrite
  split <;> exact .raise _ s hf

/-- The address of the latch, for the write classes that hold one address (R102 to R105). -/
def latchAddr : WriteClass → Option Addr
  | .irq1 => some 0x6820
  | .irq2 => some 0x6821
  | .nmi3 => some 0x6822
  | .halt => some 0x6823
  | _ => none

/-- A write that decodes as one of the four latches is at the address of that latch. -/
theorem eq_latchAddr {c : Cpu} {a b : Addr} {k : WriteClass} (hk : writeClass c a = k) (h : latchAddr k = some b) :
    a = b := by
  unfold writeClass at hk
  split at hk
  · cases c <;> simp only [romWriteClass] at hk <;> (try split at hk) <;> subst hk <;> cases h
  · rw [sharedWriteClass] at hk
    repeat' split at hk
    all_goals subst hk; cases h
    all_goals exact BitVec.eq_of_toNat_eq ‹_›

/-- The sites of `write8(c, a, _)` (R76, R95, R102 to R105, R121). -/
def writeSites (c : Cpu) (a : Addr) : Site → Prop
  | .port0 | .frame => False
  | .halts => a = 0x6823
  | .ie .cpu1 => a = 0x6820
  | .ie .cpu2 => a = 0x6821
  | .ie .cpu3 => a = 0x6822
  | .mem b => b = a.toNat
  | .rom d b => d = c ∧ b = a.toNat
  | .fault | .diag => True

/-- A byte write changes its own sites alone: its decode class says which of them. -/
theorem write8_changesOnly (c : Cpu) (a : Addr) (v : Byte) (s : State) :
    ChangesOnly (writeSites c a) s (write8 c a v s).state := by
  unfold write8
  cases h : writeClass c a
  case rom => exact romWrite_changesOnly c a v s ⟨rfl, rfl⟩ trivial
  case romHole => exact romHoleWrite_changesOnly c a v s trivial
  case irq1 => exact .setIe s .cpu1 _ (eq_latchAddr h rfl)
  case irq2 => exact .setIe s .cpu2 _ (eq_latchAddr h rfl)
  case nmi3 => exact .setIe s .cpu3 _ (eq_latchAddr h rfl)
  case halt => exact .setHalts s _ _ (eq_latchAddr h rfl)
  case ram => exact .setMem s a.toNat v rfl
  case wdog => exact .refl _ s
  case unmapped => exact .raise _ s trivial
  case latchUnimpl | snd | n06 | star | flip => exact .addDiag s _ _ v trivial

/-! ### The operations -/

/-- The sites that operation `i`, of those that step no engine, can change. -/
def mayChange (i : Instr) : Site → Prop
  | .port0 => ∃ v, i = .port0Wr v
  | .halts => (∃ c v, i = .haltWr c v) ∨ ∃ c a v, i = .write16 c a v ∧ (a = 0x6822 ∨ a = 0x6823)
  | .ie .cpu1 => (∃ c v, i = .irq1Wr c v) ∨ ∃ c a v, i = .write16 c a v ∧ (a = 0x681F ∨ a = 0x6820)
  | .ie .cpu2 => (∃ c v, i = .irq2Wr c v) ∨ ∃ c a v, i = .write16 c a v ∧ (a = 0x6820 ∨ a = 0x6821)
  | .ie .cpu3 => (∃ c v, i = .nmi3Wr c v) ∨ ∃ c a v, i = .write16 c a v ∧ (a = 0x6821 ∨ a = 0x6822)
  | .frame => i = .composeFrame
  | .mem b => (∃ c a v, i = .ramWr c a v ∧ b = a.toNat) ∨
      ∃ c a v, i = .write16 c a v ∧ (b = a.toNat ∨ b = (a + 1).toNat)
  | .rom d b => (∃ a v, i = .romWr d a v ∧ b = a.toNat) ∨
      ∃ a v, i = .write16 d a v ∧ (b = a.toNat ∨ b = (a + 1).toNat)
  | .fault => canFault i
  | .diag => canLog i

/-- The sites of either byte of a 16-bit write are sites of the write (R125). -/
theorem mayChange_write16 {c : Cpu} {a : Addr} {v : Half} {x : Site}
    (h : writeSites c a x ∨ writeSites c (nextAddr a) x) : mayChange (.write16 c a v) x := by
  have before (b : Addr) : nextAddr a = b → a = b - 1 := eq_sub_of_add_eq
  cases x with
  | port0 | frame => exact h.elim False.elim False.elim
  | halts => exact .inr ⟨c, a, v, rfl, h.symm.imp_left (before 0x6823)⟩
  | ie d =>
    cases d with
    | cpu1 => exact .inr ⟨c, a, v, rfl, h.symm.imp_left (before 0x6820)⟩
    | cpu2 => exact .inr ⟨c, a, v, rfl, h.symm.imp_left (before 0x6821)⟩
    | cpu3 => exact .inr ⟨c, a, v, rfl, h.symm.imp_left (before 0x6822)⟩
  | mem b => exact .inr ⟨c, a, v, rfl, h⟩
  | rom d b =>
    obtain ⟨rfl, hb⟩ | ⟨rfl, hb⟩ := h
    · exact .inr ⟨a, v, rfl, .inl hb⟩
    · exact .inr ⟨a, v, rfl, .inr hb⟩
  | fault | diag => trivial

theorem writePair_changesOnly (c : Cpu) (a : Addr) (v : Half) (s : State) :
    ChangesOnly (mayChange (.write16 c a v)) s (writePair c a v s).state :=
  .bind ((write8_changesOnly c a (loByte v) s).mono fun _ h => mayChange_write16 (.inl h)) fun _ t =>
    (write8_changesOnly c (nextAddr a) (hiByte v) t).mono fun _ h => mayChange_write16 (.inr h)

theorem readPair_changesOnly {p : Site → Prop} (c : Cpu) (a : Addr) (s : State) (hf : p .fault) (hd : p .diag) :
    ChangesOnly p s (readPair c a s).state :=
  .bind (read8_changesOnly c a s hf hd) fun _ t => .map _ (read8_changesOnly c (nextAddr a) t hf hd)

/-- Every operation that steps no engine keeps to its sites, and leaves the rest of the block, the engines and the
requests as they were (R31, R141). -/
theorem exec_changesOnly {i : Instr} {s t : State} (hi : ¬runsEngines i) (h : exec i s = .next t) :
    ChangesOnly (mayChange i) s t := by
  cases i
  case loopIter | handleInterrupts | vblankService | reset => exact absurd trivial hi
  case rom1Rd | rom2Rd | rom3Rd | dipRd | ramRd | wdogWr =>
    simp only [exec, execRom1Rd, execRom2Rd, execRom3Rd, execDipRd, execRamRd, execWdogWr] at h
    exact .of_issue h (.refl _ s)
  case decodeColor | buildColors | renderTile =>
    simp only [exec, execDecodeColor, execBuildColors, execRenderTile] at h
    exact .of_answer h
  case rom2RdHole | n06Rd | portRd | portWrOther =>
    simp only [exec, execRom2RdHole, execN06Rd, execPortRd, execPortWrOther] at h
    exact .of_issue h (.addDiag s _ _ _ trivial)
  case sndWr | latchUnimplWr | n06Wr | starWr | flipWr =>
    simp only [exec, execSndWr, execLatchUnimplWr, execN06Wr, execStarWr, execFlipWr] at h
    exact .of_issue h (.addDiag s _ _ _ trivial)
  case rom3RdHole | unmappedRd | unmappedWr =>
    simp only [exec, execRom3RdHole, execUnmappedRd, execUnmappedWr] at h
    exact .of_issue h (.raise _ s trivial)
  case romWr c a v =>
    simp only [exec, execRomWr] at h
    exact .of_issue h (.map _ (romWrite_changesOnly c a v s (.inl ⟨a, v, rfl, rfl⟩) trivial))
  case romWrHole c a v =>
    simp only [exec, execRomWrHole] at h
    exact .of_issue h (.map _ (romHoleWrite_changesOnly c a v s trivial))
  case irq1Wr c v =>
    simp only [exec, execIrq1Wr] at h
    exact .of_issue h (.setIe s .cpu1 _ (.inl ⟨c, v, rfl⟩))
  case irq2Wr c v =>
    simp only [exec, execIrq2Wr] at h
    exact .of_issue h (.setIe s .cpu2 _ (.inl ⟨c, v, rfl⟩))
  case nmi3Wr c v =>
    simp only [exec, execNmi3Wr] at h
    exact .of_issue h (.setIe s .cpu3 _ (.inl ⟨c, v, rfl⟩))
  case haltWr c v =>
    simp only [exec, execHaltWr] at h
    exact .of_issue h (.setHalts s _ _ (.inl ⟨c, v, rfl⟩))
  case ramWr c a v =>
    simp only [exec, execRamWr] at h
    exact .of_issue h (.setMem s a.toNat v (.inl ⟨c, a, v, rfl, rfl⟩))
  case port0Wr v =>
    simp only [exec, execPort0Wr] at h
    exact .of_issue h (.setPort0 s v ⟨v, rfl⟩)
  case read16 c a =>
    simp only [exec, execRead16] at h
    exact .of_issue h (.map _ (readPair_changesOnly c a s trivial trivial))
  case write16 c a v =>
    simp only [exec, execWrite16] at h
    exact .of_issue h (.map _ (writePair_changesOnly c a v s))
  case composeFrame =>
    simp only [exec, execComposeFrame] at h
    exact .of_issue h (.setFrame s _ rfl)
  case buildPalettes lookup colors =>
    simp only [exec, execBuildPalettes] at h
    refine .of_issue h ?_
    cases buildPalettes lookup colors with
    | ok t => exact .refl _ s
    | error k => exact .raise k s trivial

/-- Settles O33, from `exec_changesOnly`: the statement lists what `mayChange` permits, site by site. -/
theorem eachCellHasItsWriters : Obligations.EachCellHasItsWriters := by
  unfold Obligations.EachCellHasItsWriters
  intro i s t hi h
  have hc := exec_changesOnly hi h
  refine ⟨hc.port0.resolve_right, ?_, (hc.ie .cpu1).resolve_right, (hc.ie .cpu2).resolve_right,
    (hc.ie .cpu3).resolve_right, hc.frame.resolve_right, fun hm b => ((hc.mem hm).2 b).resolve_right,
    fun d hm b => ((hc.rom d hm).2 b).resolve_right, hc.fault.resolve_right, hc.diag.resolve_right,
    hc.config, hc.colors, hc.palettes, hc.csi, hc.irqOut, hc.frameOut, hc.engines, hc.requests⟩
  rintro (h2 | h3)
  · exact hc.halt2.resolve_right h2
  · exact hc.halt3.resolve_right h3

end Machine
end Sys2Proof

/-!
# The decode map

O3 compares the decoder's cascade of tests (R76) with the ranges that the map lists (R48). The ranges of the classes are
written down (`readRange`, `writeRange`). Inside a range the cascade ends at its class, and every address is listed for
some class; so the class of an access is exactly the one whose range holds the address.
-/
namespace Sys2Proof

open Sys2Proof.Machine Sys2Proof.Spec

/-- The addresses that the map lists for a class of byte reads by CPU `c` (R48, R49). -/
def readRange (c : Cpu) (a : Addr) : ReadClass → Prop
  | .rom1 => c = .cpu1 ∧ a.toNat ≤ 0x3FFF
  | .rom2 => c = .cpu2 ∧ a.toNat ≤ 0x0FFF
  | .rom2Hole => c = .cpu2 ∧ 0x1000 ≤ a.toNat ∧ a.toNat ≤ 0x3FFF
  | .rom3 => c = .cpu3 ∧ a.toNat ≤ 0x0FFF
  | .rom3Hole => c = .cpu3 ∧ 0x1000 ≤ a.toNat ∧ a.toNat ≤ 0x3FFF
  | .dip => 0x6800 ≤ a.toNat ∧ a.toNat ≤ 0x6807
  | .ram => inRamWindow a = true
  | .n06 => 0x7000 ≤ a.toNat ∧ a.toNat ≤ 0x7100
  | .unmapped => inUnmappedRead a = true

/-- The addresses that the map lists for a class of byte writes by CPU `c` (R48, R49). -/
def writeRange (c : Cpu) (a : Addr) : WriteClass → Prop
  | .rom => inRomArray c a = true
  | .romHole => inRomHole c a = true
  | .irq1 => a.toNat = 0x6820
  | .irq2 => a.toNat = 0x6821
  | .nmi3 => a.toNat = 0x6822
  | .halt => a.toNat = 0x6823
  | .latchUnimpl => 0x6824 ≤ a.toNat ∧ a.toNat ≤ 0x6827
  | .ram => inRamWindow a = true
  | .snd => 0x6800 ≤ a.toNat ∧ a.toNat ≤ 0x681F
  | .n06 => 0x7000 ≤ a.toNat ∧ a.toNat ≤ 0x7100
  | .star => 0xA000 ≤ a.toNat ∧ a.toNat ≤ 0xA005
  | .flip => a.toNat = 0xA007
  | .wdog => a.toNat = 0x6830
  | .unmapped => inUnmappedWrite a = true

/-- The unmapped reads are those that no other read range outside the ROM region holds (R48, R116). -/
theorem inUnmappedRead_iff {a : Addr} : inUnmappedRead a = true ↔
    0x4000 ≤ a.toNat ∧ ¬(0x6800 ≤ a.toNat ∧ a.toNat ≤ 0x6807) ∧ ¬(0x7000 ≤ a.toNat ∧ a.toNat ≤ 0x7100) ∧
    ¬inRamWindow a = true := by
  have := a.isLt
  simp only [inUnmappedRead, inRamWindow_iff, Bool.or_eq_true, inRange_iff]
  omega

/-- The unmapped writes are those that no other write range outside the ROM region holds (R48, R117). -/
theorem inUnmappedWrite_iff {a : Addr} : inUnmappedWrite a = true ↔
    0x4000 ≤ a.toNat ∧ ¬(0x6800 ≤ a.toNat ∧ a.toNat ≤ 0x6827) ∧ ¬a.toNat = 0x6830 ∧
    ¬(0x7000 ≤ a.toNat ∧ a.toNat ≤ 0x7100) ∧ ¬inRamWindow a = true ∧
    ¬(0xA000 ≤ a.toNat ∧ a.toNat ≤ 0xA005) ∧ ¬a.toNat = 0xA007 := by
  have := a.isLt
  simp only [inUnmappedWrite, inRamWindow_iff, Bool.or_eq_true, inRange_iff]
  omega

theorem inRomArray_lt {c : Cpu} {a : Addr} (h : inRomArray c a = true) : a.toNat < romSize c := by
  cases c <;> exact Nat.lt_succ_of_le (inRange_iff.1 h).2

theorem inRomHole_lt {c : Cpu} {a : Addr} (h : inRomHole c a = true) : a.toNat < 0x4000 := by
  cases c
  · cases h
  all_goals exact Nat.lt_succ_of_le (inRange_iff.1 h).2

theorem not_ramWindowBits_below {a : Addr} (h : a.toNat < 0x8000) : ¬ramWindowBits a = true := by
  rw [ramWindowBits_iff, inRamWindow_iff]
  omega

/-- An address that the map lists for a class of byte reads has that class. -/
theorem readClass_of_readRange {c : Cpu} {a : Addr} {k : ReadClass} (h : readRange c a k) : readClass c a = k := by
  cases k
  case rom1 | rom2 | rom2Hole | rom3 | rom3Hole =>
    obtain ⟨rfl, h⟩ := h
    simp (disch := omega) only [readClass, romReadClass, if_pos, if_neg]
  case ram => exact readClass_ram_iff.2 h
  case dip =>
    obtain ⟨hlo, hhi⟩ := h
    rw [readClass, if_neg (by omega), sharedReadClass, if_pos ⟨hlo, hhi⟩]
  case n06 =>
    obtain ⟨hlo, hhi⟩ := h
    rw [readClass, if_neg (by omega), sharedReadClass, if_neg (by omega),
      if_neg (not_ramWindowBits_below (by omega)), if_pos ⟨hlo, hhi⟩]
  case unmapped =>
    obtain ⟨hrom, hd, hn, hr⟩ := inUnmappedRead_iff.1 h
    rw [readClass, if_neg (by omega), sharedReadClass, if_neg hd, if_neg (mt ramWindowBits_iff.1 hr), if_neg hn]

/-- The map lists every address for some class of byte reads. -/
theorem exists_readRange (c : Cpu) (a : Addr) : ∃ k, readRange c a k := by
  by_contra! unlisted
  by_cases hrom : a.toNat < 0x4000
  · cases c
    case cpu1 => exact unlisted .rom1 ⟨rfl, by omega⟩
    case cpu2 =>
      by_cases ha : a.toNat < 0x1000
      · exact unlisted .rom2 ⟨rfl, by omega⟩
      · exact unlisted .rom2Hole ⟨rfl, by omega, by omega⟩
    case cpu3 =>
      by_cases ha : a.toNat < 0x1000
      · exact unlisted .rom3 ⟨rfl, by omega⟩
      · exact unlisted .rom3Hole ⟨rfl, by omega, by omega⟩
  · exact unlisted .unmapped
      (inUnmappedRead_iff.2 ⟨by omega, unlisted .dip, unlisted .n06, unlisted .ram⟩)

/-- Every decode class of a byte read is exactly the range that the map lists for it (R48, R76). -/
theorem readClass_iff {c : Cpu} {a : Addr} {k : ReadClass} : readClass c a = k ↔ readRange c a k := by
  refine ⟨?_, readClass_of_readRange⟩
  rintro rfl
  obtain ⟨j, hj⟩ := exists_readRange c a
  rwa [readClass_of_readRange hj]

/-- An address that the map lists for a class of byte writes has that class. -/
theorem writeClass_of_writeRange {c : Cpu} {a : Addr} {k : WriteClass} (h : writeRange c a k) :
    writeClass c a = k := by
  cases k
  case rom => exact writeClass_rom_iff.2 h
  case romHole =>
    cases c
    case cpu1 => cases h
    all_goals
      obtain ⟨hlo, hhi⟩ := inRange_iff.1 h
      simp (disch := omega) only [writeClass, romWriteClass, if_pos, if_neg]
  case ram => exact writeClass_ram_iff.2 h
  case unmapped =>
    obtain ⟨hrom, _, _, _, hr, _, _⟩ := inUnmappedWrite_iff.1 h
    rw [writeClass, if_neg (by omega), sharedWriteClass, if_neg (mt ramWindowBits_iff.1 hr)]
    repeat rw [if_neg (by omega)]
  all_goals
    simp only [writeRange] at h
    have outside : ¬ramWindowBits a = true := by rw [ramWindowBits_iff, inRamWindow_iff]; omega
    rw [writeClass, if_neg (by omega), sharedWriteClass, if_neg outside]
    repeat rw [if_neg (by omega)]
    exact if_pos h

/-- The map lists every address for some class of byte writes. -/
theorem exists_writeRange (c : Cpu) (a : Addr) : ∃ k, writeRange c a k := by
  by_contra! unlisted
  by_cases hrom : a.toNat < 0x4000
  · cases c
    case cpu1 => exact unlisted .rom (inRange_iff.2 ⟨by omega, by omega⟩)
    all_goals
      by_cases ha : a.toNat < 0x1000
      · exact unlisted .rom (inRange_iff.2 ⟨by omega, by omega⟩)
      · exact unlisted .romHole (inRange_iff.2 ⟨by omega, by omega⟩)
  · have latches : ¬(0x6820 ≤ a.toNat ∧ a.toNat ≤ 0x6827) := by
      have h0 : a.toNat ≠ 0x6820 := unlisted .irq1
      have h1 : a.toNat ≠ 0x6821 := unlisted .irq2
      have h2 : a.toNat ≠ 0x6822 := unlisted .nmi3
      have h3 : a.toNat ≠ 0x6823 := unlisted .halt
      have h4 : ¬(0x6824 ≤ a.toNat ∧ a.toNat ≤ 0x6827) := unlisted .latchUnimpl
      omega
    have sound : ¬(0x6800 ≤ a.toNat ∧ a.toNat ≤ 0x681F) := unlisted .snd
    exact unlisted .unmapped (inUnmappedWrite_iff.2
      ⟨by omega, by omega, unlisted .wdog, unlisted .n06, unlisted .ram, unlisted .star, unlisted .flip⟩)

/-- Every decode class of a byte write is exactly the range that the map lists for it (R48, R76). -/
theorem writeClass_iff {c : Cpu} {a : Addr} {k : WriteClass} : writeClass c a = k ↔ writeRange c a k := by
  refine ⟨?_, writeClass_of_writeRange⟩
  rintro rfl
  obtain ⟨j, hj⟩ := exists_writeRange c a
  rwa [writeClass_of_writeRange hj]

/-! ### The decoder, class by class -/

theorem decodeRead_iff (c : Cpu) (a : Addr) :
    (decodeRead c a = .rom1Rd a ↔ readClass c a = .rom1) ∧
    (decodeRead c a = .rom2Rd a ↔ readClass c a = .rom2) ∧
    (decodeRead c a = .rom2RdHole a ↔ readClass c a = .rom2Hole) ∧
    (decodeRead c a = .rom3Rd a ↔ readClass c a = .rom3) ∧
    (decodeRead c a = .rom3RdHole a ↔ readClass c a = .rom3Hole) ∧
    (decodeRead c a = .dipRd c a ↔ readClass c a = .dip) ∧
    (decodeRead c a = .n06Rd c a ↔ readClass c a = .n06) ∧
    (decodeRead c a = .ramRd c a ↔ readClass c a = .ram) ∧
    (decodeRead c a = .unmappedRd c a ↔ readClass c a = .unmapped) := by
  unfold decodeRead
  cases readClass c a <;> simp

theorem decodeWrite_iff (c : Cpu) (a : Addr) (v : Byte) :
    (decodeWrite c a v = .romWr c a v ↔ writeClass c a = .rom) ∧
    (decodeWrite c a v = .romWrHole c a v ↔ writeClass c a = .romHole) ∧
    (decodeWrite c a v = .sndWr c a v ↔ writeClass c a = .snd) ∧
    (decodeWrite c a v = .irq1Wr c v ↔ writeClass c a = .irq1) ∧
    (decodeWrite c a v = .irq2Wr c v ↔ writeClass c a = .irq2) ∧
    (decodeWrite c a v = .nmi3Wr c v ↔ writeClass c a = .nmi3) ∧
    (decodeWrite c a v = .haltWr c v ↔ writeClass c a = .halt) ∧
    (decodeWrite c a v = .latchUnimplWr c a v ↔ writeClass c a = .latchUnimpl) ∧
    (decodeWrite c a v = .wdogWr c v ↔ writeClass c a = .wdog) ∧
    (decodeWrite c a v = .n06Wr c a v ↔ writeClass c a = .n06) ∧
    (decodeWrite c a v = .ramWr c a v ↔ writeClass c a = .ram) ∧
    (decodeWrite c a v = .starWr c a v ↔ writeClass c a = .star) ∧
    (decodeWrite c a v = .flipWr c v ↔ writeClass c a = .flip) ∧
    (decodeWrite c a v = .unmappedWr c a v ↔ writeClass c a = .unmapped) := by
  unfold decodeWrite
  cases writeClass c a <;> simp

/-- Settles O3: the decoder follows the class, and each class is its listed range. -/
theorem decodeMapIsTheListedPartition : Obligations.DecodeMapIsTheListedPartition := by
  unfold Obligations.DecodeMapIsTheListedPartition
  refine ⟨fun a => ?_, fun c a v => ?_⟩
  · simp only [decodeRead_iff, readClass_iff, readRange, true_and, and_self]
  · simp only [decodeRead_iff, decodeWrite_iff, readClass_iff, writeClass_iff, readRange, writeRange,
      BitVec.toNat_eq, BitVec.reduceToNat, true_and]

end Sys2Proof

/-!
# Reads and writes

A byte access presented to the block is the access that an agent of the machine makes (`exec_decodeRead`,
`exec_decodeWrite`). Every read form runs a body of one kind (`ReadOp`), which is built from a few elementary reads.
-/
namespace Sys2Proof

/-- The byte that stands at an address, written there again, changes nothing. -/
theorem Memory.write_read_from {lo a : Nat} {m : Memory} (hm : Memory.wfFrom lo m = true) :
    m.write a (m.read a) = m := by
  induction m generalizing lo with
  | nil => rfl
  | cons cell m ih =>
    obtain ⟨k, w⟩ := cell
    obtain ⟨_, hw, hm⟩ := Memory.wfFrom_cons.1 hm
    rcases lt_trichotomy a k with hk | rfl | hk
    · rw [Memory.read_cons_of_ne w m (by omega), Memory.read_below hm (by omega), Memory.write, if_pos hk, if_pos rfl]
    · rw [Memory.read_cons_self, Memory.write, if_neg (lt_irrefl a), if_pos rfl, if_neg hw]
    · rw [Memory.read_cons_of_ne w m (by omega), Memory.write, if_neg (by omega), if_neg (by omega), ih hm]

/-- A byte written twice to a canonical array is a byte written once. -/
theorem Memory.write_write_same {m : Memory} (a : Nat) (v : Byte) (hm : m.wf = true) :
    (m.write a v).write a v = m.write a v := by
  have stands := Memory.write_read_from (a := a) (Memory.write_wf a v hm)
  rwa [Memory.read_write_same a v hm] at stands

namespace Machine

open Sys2Proof.Spec

/-- An operation that records a fault wherever it is raised, and ends with none recorded, was done. -/
theorem Ran.done_of_outcome {α : Type} {r : Ran α} {f : α → Reply} {t : State} (h : (r.map f).outcome = .next t)
    (ht : t.fault = none) (raised : ∀ u, r = .raised u → u.fault ≠ none) :
    ∃ v u, r = .done v u ∧ t = u.setReply (f v) := by
  cases r with
  | done v u => exact ⟨v, u, rfl, (Host.Outcome.next.inj h).symm⟩
  | raised u => cases h; exact absurd ht (raised u rfl)

/-! ### Presented accesses -/

theorem wf_decodeRead (c : Cpu) (a : Addr) : (decodeRead c a).wf = true := by
  have listed := readClass_iff.1 (rfl : readClass c a = _)
  unfold decodeRead
  cases h : readClass c a <;> rw [h] at listed
  case rom1 | rom2 | rom3 => exact inRange_iff.2 ⟨Nat.zero_le _, listed.2⟩
  case rom2Hole | rom3Hole => exact inRange_iff.2 listed.2
  case dip | n06 => exact inRange_iff.2 listed
  case ram | unmapped => exact listed

theorem wf_decodeWrite (c : Cpu) (a : Addr) (v : Byte) : (decodeWrite c a v).wf = true := by
  have listed := writeClass_iff.1 (rfl : writeClass c a = _)
  unfold decodeWrite
  cases h : writeClass c a <;> rw [h] at listed
  case irq1 | irq2 | nmi3 | halt | flip | wdog => rfl
  case latchUnimpl | snd | n06 | star => exact inRange_iff.2 listed
  case rom | romHole | ram | unmapped => exact listed

/-- A byte read presented to the block is the byte read (R71, R76). -/
theorem exec_decodeRead {s : State} (hs : Ready s) (c : Cpu) (a : Addr) :
    exec (decodeRead c a) s = ((read8 c a s).map Reply.byte).outcome := by
  rw [← issue_ready (fun s => (read8 c a s).map Reply.byte) hs (wf_decodeRead c a)]
  have listed := readClass_iff.1 (rfl : readClass c a = _)
  unfold decodeRead read8
  cases h : readClass c a <;> rw [h] at listed
  case rom1 | rom2 | rom2Hole | rom3 | rom3Hole => obtain ⟨rfl, _⟩ := listed; rfl
  all_goals rfl

/-- A byte write presented to the block is the byte write (R71, R76). -/
theorem exec_decodeWrite {s : State} (hs : Ready s) (c : Cpu) (a : Addr) (v : Byte) :
    exec (decodeWrite c a v) s = ((write8 c a v s).map fun _ => Reply.nothing).outcome := by
  rw [← issue_ready (fun s => (write8 c a v s).map fun _ => Reply.nothing) hs (wf_decodeWrite c a v)]
  have listed := writeClass_iff.1 (rfl : writeClass c a = _)
  unfold decodeWrite write8
  cases h : writeClass c a <;> rw [h] at listed
  case flip => obtain rfl : a = 0xA007 := BitVec.eq_of_toNat_eq listed; rfl
  all_goals rfl

theorem writeKey_toNat (c : Cpu) (a : Addr) : writeKey c a.toNat = busKey true c a := by
  cases c <;> simp only [writeKey, readKey, busKey, cpuCode, Bool.toNat_true] <;> omega

theorem decode_writeKey (c : Cpu) (a : Addr) (v : Byte) :
    decode (.bus8 (writeKey c a.toNat) (some v)) = .ok (decodeWrite c a v) := by
  simp only [writeKey_toNat, decode, if_pos (busKey_lt true c a), busCpu_busKey, busWr_busKey, busAddr_busKey]

/-! ### RAM -/

theorem exec_ramWr {s : State} (hs : Ready s) (c : Cpu) {a : Addr} (v : Byte) (ha : inRamWindow a = true) :
    exec (.ramWr c a v) s = .next (silent (s.setMem (s.mem.write a.toNat v))) :=
  issue_ready (i := .ramWr c a v) (fun s => (ramWrite a v s).map fun _ => .nothing) hs ha

theorem exec_ramRd {s : State} (hs : Ready s) (c : Cpu) {a : Addr} (ha : inRamWindow a = true) :
    exec (.ramRd c a) s = .next (s.setReply (.byte (s.mem.read a.toNat))) :=
  issue_ready (i := .ramRd c a) (fun s => (ramRead a s).map .byte) hs ha

/-- Settles O21: the cell written is the one that every CPU reads. -/
theorem ramWriteIsSeenByEveryCpu : Obligations.RamWriteIsSeenByEveryCpu := by
  unfold Obligations.RamWriteIsSeenByEveryCpu
  intro s c a v hs hm ha
  refine ⟨s.mem.write a.toNat v, ⟨?_, exec_ramWr hs c v ha⟩, fun d => ?_, fun b => Memory.read_write_other v hm⟩
  · rw [decode_writeKey, decodeWrite, writeClass_ram_iff.2 ha]
  · rw [exec_ramRd (s := silent (s.setMem (s.mem.write a.toNat v))) hs d ha]
    simp only [silent, State.setReply_mem, State.setMem_mem, Memory.read_write_same a.toNat v hm]
    rfl

/-! ### The maps outside the ROM region -/

/-- Two accesses from the same state do the same, or both end in a fatal fault that alone they record (R195). -/
def Agree {α : Type} (s : State) (r q : Ran α) : Prop := r = q ∨ ∃ j k, r = raise j s ∧ q = raise k s

theorem read8_agree (s : State) (c d : Cpu) {a : Addr} (ha : 0x4000 ≤ a.toNat) :
    Agree s (read8 c a s) (read8 d a s) := by
  have shared (c : Cpu) : readClass c a = sharedReadClass a := if_neg (by omega)
  have cpu (c : Cpu) (k : ReadClass) (h : sharedReadClass a = k) := readClass_iff.1 ((shared c).trans h)
  unfold read8
  rw [shared c, shared d]
  cases h : sharedReadClass a
  case rom1 | rom2 | rom2Hole | rom3 | rom3Hole => exact absurd (cpu c _ h).2 (by omega)
  case unmapped => exact .inr ⟨_, _, rfl, rfl⟩
  case dip | ram | n06 => exact .inl rfl

theorem write8_agree (s : State) (c d : Cpu) {a : Addr} (v : Byte) (ha : 0x4000 ≤ a.toNat) :
    Agree s (write8 c a v s) (write8 d a v s) := by
  have shared (c : Cpu) : writeClass c a = sharedWriteClass a := if_neg (by omega)
  have listed (k : WriteClass) (h : sharedWriteClass a = k) : writeRange c a k := writeClass_iff.1 ((shared c).trans h)
  unfold write8
  rw [shared c, shared d]
  cases h : sharedWriteClass a
  case rom => have := inRomArray_lt (listed _ h); exact absurd this (by cases c <;> simp only [romSize] <;> omega)
  case romHole => exact absurd (inRomHole_lt (listed _ h)) (by omega)
  case unmapped => exact .inr ⟨_, _, rfl, rfl⟩
  all_goals exact .inl rfl

/-- Accesses that agree answer states that agree but for the fault record, and both or neither record a fault. -/
theorem Agree.outcome {α : Type} {s : State} {r q : Ran α} (h : Agree s r q) (hs : Ready s) (f : α → Reply) :
    ∃ t u, (r.map f).outcome = .next t ∧ (q.map f).outcome = .next u ∧ u = { t with fault := u.fault } ∧
      (t.fault = none ↔ u.fault = none) := by
  rcases h with rfl | ⟨j, k, rfl, rfl⟩
  · cases r with
    | done v t => exact ⟨_, _, rfl, rfl, rfl, .rfl⟩
    | raised t => exact ⟨_, _, rfl, rfl, rfl, .rfl⟩
  · rw [raise_of_ready j hs, raise_of_ready k hs]
    exact ⟨_, _, rfl, rfl, rfl, by simp⟩

/-- Settles O23: outside the ROM region the class of an access does not depend on the CPU. -/
theorem mapsAgreeOutsideTheRomRegion : Obligations.MapsAgreeOutsideTheRomRegion := by
  unfold Obligations.MapsAgreeOutsideTheRomRegion
  intro s c d a v hs ha
  rw [exec_decodeRead hs, exec_decodeRead hs, exec_decodeWrite hs, exec_decodeWrite hs]
  exact ⟨(read8_agree s c d ha).outcome hs _, (write8_agree s c d v ha).outcome hs _⟩

/-! ### Reads -/

/-- The cells that a read looks at are the same. -/
structure SameCells (s t : State) : Prop where
  config : t.config = s.config
  roms : ∀ c, t.romOf c = s.romOf c
  mem : t.mem = s.mem

theorem SameCells.symm {s t : State} (h : SameCells s t) : SameCells t s :=
  ⟨h.config.symm, fun c => (h.roms c).symm, h.mem.symm⟩

theorem SameCells.trans {s t u : State} (h : SameCells s t) (k : SameCells t u) : SameCells s u :=
  ⟨k.config.trans h.config, fun c => (k.roms c).trans (h.roms c), k.mem.trans h.mem⟩

/-- `t` is `s` but for events added to the stream `diag` and for the `fault` cell (R46). -/
def OnlyReports (s t : State) : Prop := ∃ d f, t = { s with diag := s.diag ++ d, fault := f }

theorem OnlyReports.refl (s : State) : OnlyReports s s := ⟨[], s.fault, by rw [List.append_nil]⟩

theorem OnlyReports.trans {s t u : State} (h : OnlyReports s t) (k : OnlyReports t u) : OnlyReports s u := by
  obtain ⟨d, f, rfl⟩ := h
  obtain ⟨e, g, rfl⟩ := k
  exact ⟨d ++ e, g, by rw [← List.append_assoc]⟩

theorem OnlyReports.sameCells {s t : State} (h : OnlyReports s t) : SameCells s t := by
  obtain ⟨d, f, rfl⟩ := h
  exact ⟨rfl, fun c => by cases c <;> rfl, rfl⟩

/-- A body of a read: it reports and changes nothing else, records a fault only where it is raised, and its answer
depends on the cells alone. -/
structure ReadOp {α : Type} (f : State → Ran α) : Prop where
  run : ∀ s, BusRun s (f s)
  reports : ∀ s, OnlyReports s (f s).state
  answer : ∀ s t v u, f s = .done v u → SameCells s t → ∃ w, f t = .done v w

namespace ReadOp

variable {α β : Type}

/-- A read of a cell (R90, R100, R120). -/
theorem cell {g : State → α} (h : ∀ s t, SameCells s t → g t = g s) : ReadOp fun s => .done (g s) s where
  run s := .of_done (g s) .refl rfl
  reports s := .refl s
  answer s t v u e same := by cases e; exact ⟨t, by rw [h s t same]⟩

/-- A read that answers a constant and logs one event (R92, R111, R132). -/
theorem logged (sub : Subsystem) (a : Addr) (b : Byte) (v : α) : ReadOp fun s => .done v (s.addDiag sub a b) where
  run s := .of_done v (.one (.log s sub a b)) (by simp)
  reports s := ⟨_, s.fault, rfl⟩
  answer s t w u e _ := by cases e; exact ⟨_, rfl⟩

/-- A read that is fatal (R94, R116). -/
theorem fatal (k : FaultKind) : ReadOp fun s => (raise k s : Ran α) where
  run s := .of_raise s k
  reports s := ⟨[], some (s.fault.getD k), by simp only [List.append_nil]; rfl⟩
  answer _ _ _ _ e _ := nomatch e

theorem bind {f : State → Ran α} {g : α → State → Ran β} (hf : ReadOp f) (hg : ∀ v, ReadOp (g v)) :
    ReadOp fun s => (f s).bind g where
  run s := (hf.run s).bind fun v t => (hg v).run t
  reports s := by
    have first := hf.reports s
    cases h : f s with
    | done v t => rw [h] at first; exact first.trans ((hg v).reports t)
    | raised t => rw [h] at first; exact first
  answer s t w u e same := by
    have first := hf.reports s
    cases h : f s with
    | raised _ => rw [h] at e; cases e
    | done v s' =>
      rw [h] at first e
      obtain ⟨t', ht⟩ := hf.answer s t v s' h same
      have second := hf.reports t
      rw [ht] at second
      obtain ⟨w', hw⟩ := (hg v).answer s' t' w u e (first.sameCells.symm.trans (same.trans second.sameCells))
      exact ⟨w', by rw [ht]; exact hw⟩

theorem map {f : State → Ran α} (g : α → β) (hf : ReadOp f) : ReadOp fun s => (f s).map g where
  run s := (hf.run s).map g
  reports s := by rw [Ran.state_map]; exact hf.reports s
  answer s t w u e same := by
    cases h : f s with
    | raised _ => rw [h] at e; cases e
    | done v s' =>
      obtain ⟨t', ht⟩ := hf.answer s t v s' h same
      rw [h] at e
      cases e
      exact ⟨t', by rw [ht, Ran.map_done]⟩

theorem romRead (c : Cpu) (a : Addr) : ReadOp (Machine.romRead c a) :=
  .cell fun s t same => by rw [same.roms]

theorem dipRead (a : Addr) : ReadOp (Machine.dipRead a) := .cell fun s t same => by rw [same.config]

theorem ramRead (a : Addr) : ReadOp (Machine.ramRead a) := .cell fun s t same => by rw [same.mem]

theorem read8 (c : Cpu) (a : Addr) : ReadOp (Machine.read8 c a) := by
  unfold Machine.read8
  cases readClass c a
  case rom1 | rom2 | rom3 => exact romRead _ a
  case dip => exact dipRead a
  case ram => exact ramRead a
  case rom2Hole | n06 => exact logged _ _ _ _
  case rom3Hole | unmapped => exact fatal _

theorem readPair (c : Cpu) (a : Addr) : ReadOp (Machine.readPair c a) :=
  (read8 c a).bind fun _ => (read8 c (nextAddr a)).map _

end ReadOp

/-- Every read form runs such a body in the frame of `issue` (R70). -/
theorem exec_eq_issue_of_isRead {i : Instr} (h : isRead i) : ∃ f, ReadOp f ∧ ∀ s, exec i s = issue i s f := by
  cases i
  case rom1Rd a | rom2Rd a | rom3Rd a => exact ⟨_, (ReadOp.romRead _ a).map .byte, fun _ => rfl⟩
  case rom2RdHole a => exact ⟨_, (ReadOp.logged .rom2 a 0x00 0x00).map .byte, fun _ => rfl⟩
  case n06Rd c a => exact ⟨_, (ReadOp.logged .namco06xx a namco06Read namco06Read).map .byte, fun _ => rfl⟩
  case portRd c p => exact ⟨_, (ReadOp.logged .port (portAddr p) 0x00 0x00).map .byte, fun _ => rfl⟩
  case rom3RdHole a => exact ⟨_, (ReadOp.fatal (.unmappedAddress .cpu3 a .read)).map .byte, fun _ => rfl⟩
  case unmappedRd c a => exact ⟨_, (ReadOp.fatal (.unmappedAddress c a .read)).map .byte, fun _ => rfl⟩
  case dipRd c a => exact ⟨_, (ReadOp.dipRead a).map .byte, fun _ => rfl⟩
  case ramRd c a => exact ⟨_, (ReadOp.ramRead a).map .byte, fun _ => rfl⟩
  case read16 c a => exact ⟨_, (ReadOp.readPair c a).map .word, fun _ => rfl⟩
  all_goals exact absurd h id

/-- Settles O30: the body of a read only reports, and the block answers its issuer. -/
theorem readsChangeNoCell : Obligations.ReadsChangeNoCell := by
  unfold Obligations.ReadsChangeNoCell
  intro i s t hi h
  obtain ⟨f, op, hf⟩ := exec_eq_issue_of_isRead hi
  rw [hf] at h
  obtain ⟨_, _, ho⟩ := issue_next h
  obtain ⟨r, rfl⟩ := Ran.outcome_next ho
  obtain ⟨d, g, hd⟩ := op.reports s
  exact ⟨d, g, r, by rw [hd]; rfl⟩

/-- Settles O31: the first read leaves the cells, so the second answers from the same ones. -/
theorem readsRepeat : Obligations.ReadsRepeat := by
  unfold Obligations.ReadsRepeat
  intro i s t hi h ht
  obtain ⟨f, op, hf⟩ := exec_eq_issue_of_isRead hi
  rw [hf] at h
  obtain ⟨_, wf, ho⟩ := issue_next h
  have first := op.reports s
  cases hr : f s with
  | raised u =>
    rw [hr] at ho
    cases ho
    exact absurd ht ((op.run s).raised u hr)
  | done v u =>
    rw [hr] at ho first
    cases ho
    have same : SameCells s (u.setReply v) := first.sameCells.trans ⟨rfl, fun c => by simp, rfl⟩
    obtain ⟨w, hw⟩ := op.answer s _ v u hr same
    refine ⟨w.setReply v, ?_, rfl, ((op.run _).done v w hw).trans ht⟩
    rw [hf, issue_ready f ht wf, hw, Ran.outcome_done]

/-! ### Writes -/

/-- A byte write that is done does the same to the state it leaves, but for what it logs (R47). -/
theorem write8_repeat {c : Cpu} {a : Addr} {v : Byte} {s u : State} (hm : s.mem.wf = true)
    (hr : (s.romOf c).wf = true) (h : write8 c a v s = .done () u) (r : Reply) :
    ∃ d, write8 c a v (u.setReply r) = .done () { u.setReply r with diag := d } := by
  unfold write8 at h ⊢
  cases hc : writeClass c a <;> rw [hc] at h <;> dsimp only at h ⊢
  case rom =>
    unfold romWrite at h ⊢
    split at h
    case isFalse => cases h
    case isTrue hw =>
      cases h
      refine ⟨s.diag, ?_⟩
      simp only [State.setReply_config, State.setRom_config, hw, if_true, State.setReply_romOf,
        State.setRom_romOf_same, Memory.write_write_same a.toNat v hr]
      cases c <;> rfl
  case romHole =>
    unfold romHoleWrite at h
    split at h <;> cases h
  case unmapped => cases h
  case ram =>
    cases h
    refine ⟨s.diag, ?_⟩
    simp only [ramWrite, State.setReply_mem, State.setMem_mem, Memory.write_write_same a.toNat v hm]
    rfl
  all_goals
    cases h
    exact ⟨_, rfl⟩

/-- Settles O32: the second write is the same byte write, made in the state that the first leaves. -/
theorem writesAreIdempotent : Obligations.WritesAreIdempotent := by
  unfold Obligations.WritesAreIdempotent
  intro c a v s t hm hr h ht
  have notReset : decodeWrite c a v ≠ .reset := by unfold decodeWrite; cases writeClass c a <;> exact nofun
  obtain ⟨hs, _⟩ := exec_next notReset h
  rw [exec_decodeWrite hs] at h
  obtain ⟨_, u, hw, rfl⟩ := Ran.done_of_outcome h ht (write8_run c a v s).raised
  obtain ⟨d, hd⟩ := write8_repeat hm (hr c) hw .nothing
  exact ⟨d, by rw [exec_decodeWrite ht, hd]; rfl⟩

end Machine
end Sys2Proof

/-!
# Colours determine their bytes

The weights of R135 are such that no two sums of some of them are equal, so a colour determines the bits that the
wiring carries to it, and a bijective wiring (R136) carries all eight.
-/
namespace Sys2Proof.Machine

open Sys2Proof.Spec

/-- The sum of some of the three weights of a red or green component tells which they are (R135). -/
theorem weights_injective : ∀ x y z x' y' z' : Bool,
    BitVec.ofNat 8 ((if x then weightLight else 0) + (if y then weightMiddle else 0) + if z then weightHeavy else 0) =
      BitVec.ofNat 8
        ((if x' then weightLight else 0) + (if y' then weightMiddle else 0) + if z' then weightHeavy else 0) →
    x = x' ∧ y = y' ∧ z = z' := by decide

/-- The sum of some of the two weights of a blue component tells which they are (R135). -/
theorem blueWeights_injective : ∀ x y x' y' : Bool,
    BitVec.ofNat 8 ((if x then weightBlueLight else 0) + if y then weightBlueHeavy else 0) =
      BitVec.ofNat 8 ((if x' then weightBlueLight else 0) + if y' then weightBlueHeavy else 0) →
    x = x' ∧ y = y' := by decide

/-- Bytes of one colour agree on every bit that the wiring uses. -/
theorem getLsbD_eq_of_decodeColor_eq {cb : ColorBits} {b d : Byte} (h : decodeColor cb b = decodeColor cb d) :
    ∀ i ∈ cb.positions, b.getLsbD i.val = d.getLsbD i.val := by
  obtain ⟨r0, r1, r2⟩ := weights_injective _ _ _ _ _ _ (congrArg Color.r h)
  obtain ⟨g0, g1, g2⟩ := weights_injective _ _ _ _ _ _ (congrArg Color.g h)
  obtain ⟨b0, b1⟩ := blueWeights_injective _ _ _ _ (congrArg Color.b h)
  simp only [ColorBits.positions, List.forall_mem_cons]
  exact ⟨r0, r1, r2, g0, g1, g2, b0, b1, fun i hi => absurd hi List.not_mem_nil⟩

/-- An allowed wiring uses every bit of the byte (D4, R136). -/
theorem mem_positions {cb : ColorBits} (h : cb.wf = true) (i : Fin 8) : i ∈ cb.positions := by
  have nodup : cb.positions.Nodup := of_decide_eq_true h
  have all : cb.positions.toFinset = Finset.univ :=
    Finset.eq_univ_of_card _ (List.toFinset_card_of_nodup nodup)
  exact List.mem_toFinset.1 (all ▸ Finset.mem_univ i)

theorem exec_decodeColor {s : State} (hs : Ready s) (b : Byte) :
    exec (.decodeColor b) s = .next (s.setReply (.color (decodeColor s.config.colorBits b))) :=
  issue_ready (i := .decodeColor b) (fun s => .done (.color (decodeColor s.config.colorBits b)) s) hs rfl

/-- Settles O38: equal answers are equal colours, which agree on all eight bits of the byte. -/
theorem decodeColorIsInjective : Obligations.DecodeColorIsInjective := by
  unfold Obligations.DecodeColorIsInjective
  intro s b d hs wf h
  rw [exec_decodeColor hs, exec_decodeColor hs] at h
  have reply := congrArg State.reply (Host.Outcome.next.inj h)
  have bits := getLsbD_eq_of_decodeColor_eq (Reply.color.inj reply)
  exact BitVec.eq_of_getLsbD_eq fun i hi => bits ⟨i, hi⟩ (mem_positions wf ⟨i, hi⟩)

end Sys2Proof.Machine

/-!
# The invariant

Every operation but `reset()` is finitely many elementary effects, so what one effect keeps, the operation keeps: the
protected code ROMs (O35), and the canonical arrays. The tables and the count come from the frame of the operations and
from the VBLANK check. `reset()` builds the state afresh from the configuration. Together they are O60.
-/
namespace Sys2Proof

open Sys2Proof.Spec

namespace Machine

/-! ### Protected code ROMs -/

/-- One effect changes no code ROM without the override (R52(a), R95). -/
theorem Effect.romOf_of_protected {s t : State} (h : Effect s t) (hp : s.config.writableRom = false) (c : Cpu) :
    t.romOf c = s.romOf c := by
  cases h with
  | bus h =>
    cases h with
    | storeRom d a v ha hw => exact absurd (hw.symm.trans hp) Bool.noConfusion
    | _ => simp
  | _ => simp

theorem Effects.romOf_of_protected {s t : State} (h : Effects s t) (hp : s.config.writableRom = false) (c : Cpu) :
    t.romOf c = s.romOf c := by
  induction h with
  | refl => rfl
  | tail before last ih =>
    have config := (Effects.frame before).config
    exact (last.romOf_of_protected (by rw [config, hp]) c).trans ih

/-- Settles O35: an operation but `reset()` is finitely many effects, and none of them stores into a protected ROM. -/
theorem romsAreProtected : Obligations.RomsAreProtected := by
  unfold Obligations.RomsAreProtected
  intro i s t hp hi h c
  obtain ⟨u, r, effects, rfl⟩ := exec_effects hi h
  rw [State.setReply_romOf]
  exact effects.romOf_of_protected hp c

/-! ### Canonical arrays -/

/-- The address has a cell in the shared array (R12, R123). -/
def ramCell (a : Nat) : Bool := inRamWindow (BitVec.ofNat 16 a) && decide (a < 65536)

theorem ramCell_toNat {a : Addr} (h : inRamWindow a = true) : ramCell a.toNat = true := by
  simp [ramCell, h, a.isLt]

theorem image_iff {n : Nat} {m : Memory} :
    m.image n = true ↔ m.wf = true ∧ m.within (fun a => decide (a < n)) = true := by
  rw [Memory.image, Bool.and_eq_true]

/-- The arrays of the state: the shared array is canonical and zero outside the windows (R12), each code ROM is a
canonical array of its size (R10). -/
structure ArraysOk (s : State) : Prop where
  mem : s.mem.wf = true
  windows : s.mem.within ramCell = true
  roms : ∀ c, (s.romOf c).image (romSize c) = true

/-- A state with the same arrays. -/
theorem ArraysOk.congr {s t : State} (h : ArraysOk s) (mem : t.mem = s.mem) (rom : ∀ c, t.romOf c = s.romOf c) :
    ArraysOk t :=
  ⟨by rw [mem, h.mem], by rw [mem, h.windows], fun c => by rw [rom, h.roms]⟩

theorem BusEffect.keeps_arrays {s t : State} (h : BusEffect s t) (hs : ArraysOk s) : ArraysOk t := by
  cases h with
  | storeRam a v ha =>
    obtain ⟨wf, windows⟩ := Memory.write_keeps_wf_within v hs.mem hs.windows (ramCell_toNat ha)
    exact ⟨wf, windows, fun c => by simpa using hs.roms c⟩
  | storeRom c a v ha hw =>
    refine ⟨by simpa using hs.mem, by simpa using hs.windows, fun d => ?_⟩
    by_cases hd : d = c
    · subst hd
      obtain ⟨wf, size⟩ := image_iff.1 (hs.roms d)
      rw [State.setRom_romOf_same]
      exact image_iff.2 (Memory.write_keeps_wf_within v wf size (decide_eq_true (inRomArray_lt ha)))
    · rw [State.setRom_romOf_other s _ hd]
      exact hs.roms d
  | _ => exact hs.congr (by simp) (by simp)

theorem Effects.keeps_arrays {s t : State} (h : Effects s t) (hs : ArraysOk s) : ArraysOk t := by
  induction h with
  | refl => exact hs
  | tail _ last ih =>
    cases last with
    | bus last => exact last.keeps_arrays ih
    | _ => exact ih.congr (by simp) (by simp)

/-! ### `reset()` -/

theorem firstBadIndex_eq_none {k : Nat} {l : List Byte} (h : firstBadIndex k l = none) : ∀ b ∈ l, b.toNat < 32 := by
  induction l generalizing k with
  | nil => exact fun b hb => absurd hb List.not_mem_nil
  | cons b l ih =>
    rw [firstBadIndex] at h
    split at h
    · exact List.forall_mem_cons.2 ⟨‹_›, ih h⟩
    · cases h

/-- A table build that does not refuse had a lookup PROM of colour indices, and answers the table (R138, R139). -/
theorem buildPalettes_eq_ok {lookup : Vector Byte 256} {colors : ColorTable} {t : PaletteTable}
    (h : buildPalettes lookup colors = .ok t) :
    (∀ i : Fin 256, (lookup[i]).toNat < 32) ∧ t = paletteTable lookup colors := by
  unfold buildPalettes at h
  split at h
  · cases h
  · rename_i hnone
    exact ⟨fun i => firstBadIndex_eq_none hnone _ (by simp), (Except.ok.inj h).symm⟩

/-- The state in which `reset()` builds the palettes: the cells of R220 and the colour table are set. -/
def resetColored (s : State) : State :=
  (resetCells s).setColors (buildColors s.config.colorBits s.config.colorProm)

/-- All that `reset()` can do: with a lookup PROM that builds it completes, else it records the refusal (R220, R221,
R139). -/
theorem execReset_next {s t : State} (h : exec .reset s = .next t) :
    (LookupOk s.config ∧
      t = ((resetColored s).setPalettes (paletteTable s.config.charLookup (resetColored s).colors)).setReply .nothing) ∨
    ∃ k, t = ((resetColored s).setFault (some k)).setReply .nothing := by
  have hr : exec .reset s = ((buildTables (resetCells s)).map fun _ => Reply.nothing).outcome := rfl
  rw [hr] at h
  unfold buildTables at h
  dsimp only at h
  split at h
  · rename_i built
    obtain ⟨lookup, rfl⟩ := buildPalettes_eq_ok built
    exact .inl ⟨lookup, by cases h; rfl⟩
  · exact .inr ⟨_, by cases h; rfl⟩

/-! ### The invariant -/

/-- The image that CPU `c`'s code ROM starts from (R10). -/
def imageOf (cfg : Config) : Cpu → Memory
  | .cpu1 => cfg.rom1Image
  | .cpu2 => cfg.rom2Image
  | .cpu3 => cfg.rom3Image

theorem inv_iff {s : State} : Inv s ↔
    s.config.wf = true ∧ ArraysOk s ∧ (s.config.writableRom = false → ∀ c, s.romOf c = imageOf s.config c) ∧
    (s.fault = none → s.csi < 51200 ∧ TablesBuilt s) := by
  constructor
  · intro h
    refine ⟨h.config, ⟨h.mem, h.windows, h.roms⟩, fun hp c => ?_, fun hf => ⟨h.csi hf, h.tables hf⟩⟩
    obtain ⟨h1, h2, h3⟩ := h.romProtected hp
    cases c <;> assumption
  · rintro ⟨config, arrays, roms, running⟩
    exact ⟨config, arrays.mem, arrays.windows, arrays.roms, fun hp => ⟨roms hp .cpu1, roms hp .cpu2, roms hp .cpu3⟩,
      fun hf => (running hf).1, fun hf => (running hf).2⟩

theorem config_wf_images {cfg : Config} (h : cfg.wf = true) (c : Cpu) : (imageOf cfg c).image (romSize c) = true := by
  simp only [Config.wf, Bool.and_eq_true] at h
  obtain ⟨⟨⟨⟨⟨⟨h1, h2⟩, h3⟩, _⟩, _⟩, _⟩, _⟩ := h
  cases c <;> assumption

/-- The state in which `reset()` builds the palettes has the images in the ROMs and nothing in the shared array. -/
theorem resetColored_romOf (s : State) (c : Cpu) : (resetColored s).romOf c = imageOf s.config c := by
  cases c <;> rfl

theorem resetColored_arrays {s : State} (h : s.config.wf = true) : ArraysOk (resetColored s) :=
  ⟨rfl, rfl, fun c => by rw [resetColored_romOf]; exact config_wf_images h c⟩

theorem reset_keeps_inv {s t : State} (hs : s.config.wf = true) (h : exec .reset s = .next t) : Inv t := by
  have arrays := resetColored_arrays hs
  have config : (resetColored s).config = s.config := rfl
  have roms := resetColored_romOf s
  rw [← config] at hs roms
  rcases execReset_next h with ⟨lookup, rfl⟩ | ⟨k, rfl⟩
  · refine inv_iff.2 ⟨hs, arrays.congr rfl (by simp), fun _ c => by simpa using roms c, fun _ => ⟨?_, lookup, ?_, ?_⟩⟩
    · exact Nat.zero_lt_succ _
    · rfl
    · rfl
  · exact inv_iff.2 ⟨hs, arrays.congr rfl (by simp), fun _ c => by simpa using roms c, fun hf => nomatch hf⟩

/-- A body that leaves the count below the threshold whenever it is done leaves it so whenever no fault is recorded. -/
theorem csi_lt_of_issue {i : Instr} {s t : State} {f : State → Ran Unit}
    (h : issue i s (fun s => (f s).map fun _ => .nothing) = .next t) (hf : t.fault = none) (run : OpRun s (f s))
    (bound : ∀ u, f s = .done () u → u.csi < 51200) : t.csi < 51200 := by
  obtain ⟨_, _, ho⟩ := issue_next h
  obtain ⟨_, u, hu, rfl⟩ := Ran.done_of_outcome ho hf run.raised
  exact bound u hu

/-- An operation but `reset()` that ends with no fault leaves the count below the threshold: those of the loop by
the check, the others by not counting (R18, R175). -/
theorem exec_csi_lt {i : Instr} {s t : State} (hi : i ≠ .reset) (h : exec i s = .next t) (hs : s.csi < 51200)
    (hf : t.fault = none) : t.csi < 51200 := by
  by_cases engines : runsEngines i
  · cases i
    case loopIter => exact csi_lt_of_issue h hf (iterate_run s) fun u => iterate_csi
    case handleInterrupts n => exact csi_lt_of_issue h hf (checkVblank_run n s) fun u => checkVblank_csi
    case vblankService =>
      exact csi_lt_of_issue h hf (vblank_run s) fun u hu => by rw [vblank_csi hu]; decide
    case reset => exact absurd rfl hi
    all_goals exact absurd engines id
  · rw [(exec_changesOnly engines h).csi]
    exact hs

theorem exec_keeps_inv {i : Instr} {s t : State} (hs : Inv s) (h : exec i s = .next t) : Inv t := by
  obtain ⟨config, arrays, roms, running⟩ := inv_iff.1 hs
  by_cases hi : i = .reset
  · subst hi
    exact reset_keeps_inv config h
  obtain ⟨ready, _⟩ := exec_next hi h
  obtain ⟨csi, lookup, colors, palettes⟩ := running ready
  have csi' := exec_csi_lt hi h csi
  obtain ⟨u, r, effects, rfl⟩ := exec_effects hi h
  have frame := effects.frame
  refine inv_iff.2 ⟨?_, (effects.keeps_arrays arrays).congr rfl (by simp), fun hp c => ?_, fun hf => ⟨csi' hf, ?_⟩⟩
  · rw [State.setReply_config, frame.config, config]
  · rw [State.setReply_config, frame.config] at hp ⊢
    rw [State.setReply_romOf, effects.romOf_of_protected hp, roms hp]
  · unfold TablesBuilt
    simp only [State.setReply_config, State.setReply_colors, State.setReply_palettes, frame.config, frame.colors,
      frame.palettes]
    exact ⟨lookup, colors, palettes⟩

/-- The invariant says nothing of the requests. -/
theorem Inv.setRequests {s : State} (h : Inv s) (l : List Request) : Inv (s.setRequests l) := by
  obtain ⟨config, arrays, roms, running⟩ := inv_iff.1 h
  exact inv_iff.2 ⟨config, arrays.congr rfl (by simp), fun hp c => by simpa using roms hp c, running⟩

/-- Settles O60: a step is one operation, on the state less its request. -/
theorem everyStepKeepsTheInvariant : Obligations.EveryStepKeepsTheInvariant := by
  unfold Obligations.EveryStepKeepsTheInvariant
  intro s t hs h
  rcases step_next h with ⟨_, h⟩ | ⟨r, rest, i, _, _, h⟩
  · exact exec_keeps_inv hs h
  · exact exec_keeps_inv (hs.setRequests rest) h

end Machine
end Sys2Proof

/-!
# The reserved `cpu` field

A key within its format is decoded by its `cpu` field before its `wr` bit and its data byte are looked at, and the code
`0b00` names no CPU (R77). So the refusal is the same for reads and writes, with or without data.
-/
namespace Sys2Proof.Machine

/-- The code `0b00` is reserved (R77). -/
theorem cpuOfCode_zero : cpuOfCode 0 = none := rfl

/-- The code `0b00` names no CPU in a BUS8 key (R77). -/
theorem busCpu_eq_none {key : Nat} (h : key / 0x10000 % 4 = 0) : busCpu key = none := by
  rw [busCpu, h, cpuOfCode_zero]

/-- The code `0b00` names no CPU in a PORT key (R77). -/
theorem portCpu_eq_none {key : Nat} (h : key / 0x100 % 4 = 0) : portCpu key = none := by
  rw [portCpu, h, cpuOfCode_zero]

theorem decode_bus8_of_no_cpu {key : Nat} (d : Option Byte) (fits : key < 0x80000) (h : busCpu key = none) :
    decode (.bus8 key d) = .error .reservedCpu := by
  simp only [decode, if_pos fits, h]

theorem decode_port_of_no_cpu {key : Nat} (d : Option Byte) (fits : key < 0x800) (h : portCpu key = none) :
    decode (.port key d) = .error .reservedCpu := by
  simp only [decode, if_pos fits, h]

/-- A machine presented with a request that the decoder refuses takes no step (log entry 2). -/
theorem step_refused_of_decode_error {r : Request} {e : DecodeError} (h : decode r = .error e) (s : State)
    (rest : List Request) : step (s.setRequests (r :: rest)) = .refused (.undecodable e) := by
  simp only [step, State.setRequests_requests, h]

/-- Settles O4: the decoder refuses a key of either format that names no CPU, and the step refuses with it. -/
theorem reservedCpuFieldIsRefused : Obligations.ReservedCpuFieldIsRefused := by
  unfold Obligations.ReservedCpuFieldIsRefused
  constructor
  · intro key d fits reserved
    have refused := decode_bus8_of_no_cpu d fits (busCpu_eq_none reserved)
    exact ⟨refused, step_refused_of_decode_error refused⟩
  · intro key d fits reserved
    have refused := decode_port_of_no_cpu d fits (portCpu_eq_none reserved)
    exact ⟨refused, step_refused_of_decode_error refused⟩

end Sys2Proof.Machine

/-!
# The code ROMs

A presented key runs the byte access of its CPU at its address (`runsTo_read`, `runsTo_write`), so each statement about
the ROM region comes down to the class of that access. Where a CPU's ROM has a cell, its read and its write are the same
for the three CPUs, each at its own ROM (`runsTo_romRd`, `runsTo_romWr_writable`); O13 is a write followed by that read.
-/
namespace Sys2Proof.Machine

open Sys2Proof.Spec

/-! ### Presented keys -/

theorem readKey_toNat (c : Cpu) (a : Addr) : readKey c a.toNat = busKey false c a := by
  cases c <;> simp only [readKey, busKey, cpuCode, Bool.toNat_false]

theorem decode_readKey (c : Cpu) (a : Addr) : decode (.bus8 (readKey c a.toNat) none) = .ok (decodeRead c a) := by
  simp only [readKey_toNat, decode, if_pos (busKey_lt false c a), busCpu_busKey, busWr_busKey, busAddr_busKey]

/-- The key of a byte read runs the operation of its class, and that is the byte read (R71, R76). -/
theorem runsTo_read {s t : State} {c : Cpu} {a : Addr} {i : Instr} (hs : Ready s) (hi : decodeRead c a = i)
    (h : ((read8 c a s).map Reply.byte).outcome = .next t) : runsTo (.bus8 (readKey c a.toNat) none) i s t := by
  subst hi
  exact ⟨decode_readKey c a, (exec_decodeRead hs c a).trans h⟩

/-- The key of a byte write runs the operation of its class, and that is the byte write (R71, R76). -/
theorem runsTo_write {s t : State} {c : Cpu} {a : Addr} {v : Byte} {i : Instr} (hs : Ready s)
    (hi : decodeWrite c a v = i) (h : ((write8 c a v s).map fun _ => Reply.nothing).outcome = .next t) :
    runsTo (.bus8 (writeKey c a.toNat) (some v)) i s t := by
  subst hi
  exact ⟨decode_writeKey c a v, (exec_decodeWrite hs c a v).trans h⟩

/-- A fatal fault raised in a machine that can run is what the next state records, and all that it changes (R195). -/
theorem outcome_raise {α : Type} {s : State} (hs : Ready s) (k : FaultKind) (f : α → Reply) :
    ((raise k s).map f).outcome = .next (faulted s k) := by
  rw [raise_of_ready k hs]
  rfl

/-! ### Reads where the CPU's ROM has a cell -/

/-- The read operation of CPU `c`'s own code ROM (R90, R91, R93). -/
def romRd : Cpu → Addr → Instr
  | .cpu1 => .rom1Rd
  | .cpu2 => .rom2Rd
  | .cpu3 => .rom3Rd

theorem inRomArray_of_lt {c : Cpu} {a : Addr} (h : a.toNat < romSize c) : inRomArray c a = true := by
  cases c <;> exact inRange_iff.2 ⟨Nat.zero_le _, Nat.le_of_lt_succ h⟩

/-- The read class of CPU `c`'s own code ROM (R76 step (1)). -/
def romClass : Cpu → ReadClass
  | .cpu1 => .rom1
  | .cpu2 => .rom2
  | .cpu3 => .rom3

theorem readClass_rom {c : Cpu} {a : Addr} (ha : inRomArray c a = true) : readClass c a = romClass c := by
  cases c <;> exact readClass_iff.2 ⟨rfl, (inRange_iff.1 ha).2⟩

theorem decodeRead_rom {c : Cpu} {a : Addr} (ha : inRomArray c a = true) : decodeRead c a = romRd c a := by
  rw [decodeRead, readClass_rom ha]
  cases c <;> rfl

theorem read8_rom {c : Cpu} {a : Addr} (s : State) (ha : inRomArray c a = true) : read8 c a s = romRead c a s := by
  rw [read8, readClass_rom ha]
  cases c <;> rfl

theorem runsTo_romRd {s : State} {c : Cpu} {a : Addr} (hs : Ready s) (ha : inRomArray c a = true) :
    runsTo (.bus8 (readKey c a.toNat) none) (romRd c a) s (s.setReply (.byte ((s.romOf c).read a.toNat))) :=
  runsTo_read hs (decodeRead_rom ha) (by rw [read8_rom s ha]; rfl)

/-- Settles O8: the read of a CPU's own ROM, at each of the three CPUs. -/
theorem codeRomReadsAnswerTheCpusOwnRom : Obligations.CodeRomReadsAnswerTheCpusOwnRom := by
  unfold Obligations.CodeRomReadsAnswerTheCpusOwnRom
  intro s a hs
  have inArray (c : Cpu) (ha : a.toNat < romSize c) := runsTo_romRd hs (inRomArray_of_lt ha)
  exact ⟨fun ha => inArray .cpu1 (Nat.lt_succ_of_le ha), fun ha => inArray .cpu2 (Nat.lt_succ_of_le ha),
    fun ha => inArray .cpu3 (Nat.lt_succ_of_le ha)⟩

/-! ### Reads of the holes -/

/-- Settles O9: the class of the access is CPU2's hole, which looks at no array. -/
theorem cpu2HoleReadsZeroAndLogs : Obligations.Cpu2HoleReadsZeroAndLogs := by
  unfold Obligations.Cpu2HoleReadsZeroAndLogs
  intro s a hs lo hi
  have hole : readClass .cpu2 a = .rom2Hole := readClass_iff.2 ⟨rfl, lo, hi⟩
  refine runsTo_read (c := .cpu2) hs (by rw [decodeRead, hole]) ?_
  rw [read8, hole]
  rfl

/-- Settles O10: the class of the access is CPU3's hole, which raises. -/
theorem cpu3HoleReadIsFatal : Obligations.Cpu3HoleReadIsFatal := by
  unfold Obligations.Cpu3HoleReadIsFatal
  intro s a hs lo hi
  have hole : readClass .cpu3 a = .rom3Hole := readClass_iff.2 ⟨rfl, lo, hi⟩
  refine runsTo_read (c := .cpu3) hs (by rw [decodeRead, hole]) ?_
  rw [read8, hole]
  exact outcome_raise hs _ _

/-! ### Writes where the CPU's ROM has a cell -/

theorem decodeWrite_rom {c : Cpu} {a : Addr} (v : Byte) (ha : inRomArray c a = true) :
    decodeWrite c a v = .romWr c a v := by
  rw [decodeWrite, writeClass_rom_iff.2 ha]

theorem write8_rom {c : Cpu} {a : Addr} (v : Byte) (s : State) (ha : inRomArray c a = true) :
    write8 c a v s = romWrite c a v s := by
  rw [write8, writeClass_rom_iff.2 ha]

theorem romWrite_writable {s : State} (c : Cpu) (a : Addr) (v : Byte) (hw : s.config.writableRom = true) :
    romWrite c a v s = .done () (s.setRom c ((s.romOf c).write a.toNat v)) :=
  if_pos hw

theorem romWrite_protected {s : State} (c : Cpu) (a : Addr) (v : Byte) (hw : s.config.writableRom = false) :
    romWrite c a v s = raise (.readOnlyWrite c a v) s :=
  if_neg (Bool.eq_false_iff.1 hw)

theorem runsTo_romWr_writable {s : State} {c : Cpu} {a : Addr} (v : Byte) (hs : Ready s) (ha : inRomArray c a = true)
    (hw : s.config.writableRom = true) : runsTo (.bus8 (writeKey c a.toNat) (some v)) (.romWr c a v) s
      (silent (s.setRom c ((s.romOf c).write a.toNat v))) :=
  runsTo_write hs (decodeWrite_rom v ha) (by rw [write8_rom v s ha, romWrite_writable c a v hw]; rfl)

theorem runsTo_romWr_protected {s : State} {c : Cpu} {a : Addr} (v : Byte) (hs : Ready s) (ha : inRomArray c a = true)
    (hw : s.config.writableRom = false) : runsTo (.bus8 (writeKey c a.toNat) (some v)) (.romWr c a v) s
      (faulted s (.readOnlyWrite c a v)) :=
  runsTo_write hs (decodeWrite_rom v ha) (by rw [write8_rom v s ha, romWrite_protected c a v hw, outcome_raise hs])

/-- Settles O11: the two branches of the ROM write. -/
theorem romWriteNeedsTheOverride : Obligations.RomWriteNeedsTheOverride := by
  unfold Obligations.RomWriteNeedsTheOverride
  intro s c a v hs ha
  exact ⟨runsTo_romWr_writable v hs ha, runsTo_romWr_protected v hs ha⟩

/-- Settles O13: the write stores into the writing CPU's own ROM, which is the one that CPU reads. -/
theorem romWriteReadsBackForThatCpuOnly : Obligations.RomWriteReadsBackForThatCpuOnly := by
  unfold Obligations.RomWriteReadsBackForThatCpuOnly
  intro s c a v hs ha hw hm
  obtain ⟨-, stores⟩ := runsTo_romWr_writable v hs ha hw
  refine ⟨_, (s.romOf c).write a.toNat v, rfl, stores, ?_, fun b hb => ?_, fun d hd => ?_, ?_⟩
  · have ready : Ready (silent (s.setRom c ((s.romOf c).write a.toNat v))) := (State.setRom_fault s c _).trans hs
    obtain ⟨-, reads⟩ := runsTo_romRd ready ha
    rw [decodeRead_rom ha, reads]
    simp [silent, Memory.read_write_same a.toNat v hm]
  · simpa [silent] using Memory.read_write_other v hm hb
  · simp [silent, hd]
  · simp [silent]

/-! ### Writes of the holes -/

theorem inRomHole_of_ne_cpu1 {c : Cpu} {a : Addr} (hc : c ≠ .cpu1) (lo : 0x1000 ≤ a.toNat) (hi : a.toNat ≤ 0x3FFF) :
    inRomHole c a = true := by
  cases c with
  | cpu1 => exact absurd rfl hc
  | cpu2 | cpu3 => exact inRange_iff.2 ⟨lo, hi⟩

/-- A hole's write raises in either branch; the override decides only which fault (R97, R199). -/
theorem romHoleWrite_eq_raise (c : Cpu) (a : Addr) (v : Byte) (s : State) : romHoleWrite c a v s =
    raise (if s.config.writableRom then .unmappedAddress c a .write else .readOnlyWrite c a v) s := by
  unfold romHoleWrite
  split <;> rfl

theorem decodeWrite_romHole {c : Cpu} {a : Addr} (v : Byte) (ha : inRomHole c a = true) :
    decodeWrite c a v = .romWrHole c a v := by
  rw [decodeWrite, writeClass_iff (k := .romHole).2 ha]

theorem write8_romHole {c : Cpu} {a : Addr} (v : Byte) (s : State) (ha : inRomHole c a = true) :
    write8 c a v s = romHoleWrite c a v s := by
  rw [write8, writeClass_iff (k := .romHole).2 ha]

/-- Settles O12: the write of the hole, which raises. -/
theorem romHoleWriteIsFatal : Obligations.RomHoleWriteIsFatal := by
  unfold Obligations.RomHoleWriteIsFatal
  intro s c a v hs hc lo hi
  have hole := inRomHole_of_ne_cpu1 hc lo hi
  exact runsTo_write hs (decodeWrite_romHole v hole)
    (by rw [write8_romHole v s hole, romHoleWrite_eq_raise, outcome_raise hs])

end Sys2Proof.Machine

/-!
# MMIO and the unmapped ranges

A presented key is decoded as the operation of its address (R76), which O3 gives for every range of the map, and that
operation runs its body in the frame of `issue` (`runsTo_readOp`, `runsTo_writeOp`). So each statement comes down to the
range of the access and to what the body does. The Boolean tests of the latches are propositions about the byte.
-/
namespace Sys2Proof.Machine

open Sys2Proof.Spec

/-! ### Presented operations -/

section

variable {s t : State} {c : Cpu} {a : Addr} {v : Byte} {i : Instr}

/-- The key of a byte read runs the body `f` of the operation that it is decoded as (R71, R76). -/
theorem runsTo_readOp (f : State → Ran Byte) (hs : Ready s) (hi : decodeRead c a = i)
    (hf : exec i s = issue i s fun s => (f s).map .byte) (ht : ((f s).map Reply.byte).outcome = .next t) :
    runsTo (.bus8 (readKey c a.toNat) none) i s t := by
  subst hi
  exact ⟨decode_readKey c a, hf.trans ((issue_ready _ hs (wf_decodeRead c a)).trans ht)⟩

/-- The key of a byte write runs the body `f` of the operation that it is decoded as (R71, R76). -/
theorem runsTo_writeOp (f : State → Ran Unit) (hs : Ready s) (hi : decodeWrite c a v = i)
    (hf : exec i s = issue i s fun s => (f s).map fun _ => .nothing)
    (ht : ((f s).map fun _ => Reply.nothing).outcome = .next t) :
    runsTo (.bus8 (writeKey c a.toNat) (some v)) i s t := by
  subst hi
  exact ⟨decode_writeKey c a v, hf.trans ((issue_ready _ hs (wf_decodeWrite c a v)).trans ht)⟩

end

/-- The write classes of one address each (R102 to R105, R107, R114), for every CPU. -/
theorem decodeWrite_latches (c : Cpu) (v : Byte) :
    decodeWrite c 0x6820 v = .irq1Wr c v ∧ decodeWrite c 0x6821 v = .irq2Wr c v ∧
    decodeWrite c 0x6822 v = .nmi3Wr c v ∧ decodeWrite c 0x6823 v = .haltWr c v ∧
    decodeWrite c 0x6830 v = .wdogWr c v ∧ decodeWrite c 0xA007 v = .flipWr c v := by
  simp [decodeWrite_iff, writeClass_iff, writeRange]

/-! ### Reads -/

/-- The address of DIP byte `k` (R100). -/
theorem toNat_dipAddr (k : Fin 8) : (BitVec.ofNat 16 (0x6800 + k.val)).toNat = 0x6800 + k.val :=
  (BitVec.toNat_ofNat _ 16).trans (Nat.mod_eq_of_lt (by omega))

/-- The low three bits of its address select DIP byte `k` (R75). -/
theorem dipIndex_dipAddr (k : Fin 8) : dipIndex (BitVec.ofNat 16 (0x6800 + k.val)) = k := by
  refine Fin.ext ?_
  simp only [dipIndex, toNat_dipAddr]
  omega

/-- Settles O14: the address of DIP byte `k` is in the DIP range, and selects that byte. -/
theorem dipReadAnswersTheConfiguredByte : Obligations.DipReadAnswersTheConfiguredByte := by
  unfold Obligations.DipReadAnswersTheConfiguredByte
  refine ⟨fun s c k hs => ?_, by decide⟩
  have dip : readClass c (BitVec.ofNat 16 (0x6800 + k.val)) = .dip :=
    readClass_iff.2 (by rw [readRange, toNat_dipAddr]; omega)
  have run := runsTo_readOp (dipRead _) hs (by rw [decodeRead, dip]) rfl rfl
  simpa only [toNat_dipAddr, dipIndex_dipAddr] using run

/-- Settles O18: every address of the window has the 06XX read class, whose stub looks at no cell. -/
theorem namco06ReadsReady : Obligations.Namco06ReadsReady := by
  unfold Obligations.Namco06ReadsReady
  intro s c a hs lo hi
  have window : readClass c a = .n06 := readClass_iff.2 ⟨lo, hi⟩
  exact runsTo_readOp (n06Read a) hs (by rw [decodeRead, window]) rfl rfl

/-! ### Writes -/

/-- Settles O15: the sinks log, each in its range; the watchdog has an empty body. -/
theorem sinkWritesOnlyLog : Obligations.SinkWritesOnlyLog := by
  unfold Obligations.SinkWritesOnlyLog
  intro s c a v hs
  obtain ⟨-, -, -, -, -, -, sound, -, -, -, -, latch, -, namco06, -, star, -, -⟩ :=
    decodeMapIsTheListedPartition.2 c a v
  obtain ⟨-, -, -, -, watchdog, flip⟩ := decodeWrite_latches c v
  refine ⟨fun h => ?_, fun h => ?_, ?_, fun h => ?_, fun h => ?_, ?_⟩
  · exact runsTo_writeOp (sinkWrite .sound a v) hs (sound.2 h) rfl rfl
  · exact runsTo_writeOp (sinkWrite .latch a v) hs (latch.2 h) rfl rfl
  · exact runsTo_writeOp wdogWrite hs watchdog rfl rfl
  · exact runsTo_writeOp (sinkWrite .namco06xx a v) hs (namco06.2 h) rfl rfl
  · exact runsTo_writeOp (sinkWrite .starfield a v) hs (star.2 h) rfl rfl
  · exact runsTo_writeOp (sinkWrite .flipscreen 0xA007 v) hs flip rfl rfl

/-! ### Latches -/

/-- The enable of CPU1 and CPU2 as a proposition about the byte (R102, R103). -/
theorem enableOf_eq_decide (v : Byte) : enableOf v = decide (v ≠ 0x00) := by
  simp [enableOf, bne, beq_eq_decide]

/-- The enable of CPU3 as a proposition about the byte (R104). -/
theorem nmiEnableOf_eq_decide (v : Byte) : nmiEnableOf v = decide (v = 0x00) := beq_eq_decide v 0x00

/-- The halt latch's flags as a proposition about the byte (R105). -/
theorem haltOf_eq_decide (v : Byte) : haltOf v = decide (v = 0x00) := beq_eq_decide v 0x00

/-- Settles O16: each latch stores its test of the byte into the flag of its CPU, whoever writes. -/
theorem enableLatchesStoreTheTest : Obligations.EnableLatchesStoreTheTest := by
  unfold Obligations.EnableLatchesStoreTheTest
  intro s c v hs
  obtain ⟨irq1, irq2, nmi3, -⟩ := decodeWrite_latches c v
  rw [← enableOf_eq_decide, ← nmiEnableOf_eq_decide]
  refine ⟨?_, ?_, ?_⟩
  · exact runsTo_writeOp (irq1Write v) hs irq1 rfl rfl
  · exact runsTo_writeOp (irq2Write v) hs irq2 rfl rfl
  · exact runsTo_writeOp (nmi3Write v) hs nmi3 rfl rfl

/-- Settles O17: the latch stores its test of the byte into both flags. -/
theorem haltLatchSetsBothFlags : Obligations.HaltLatchSetsBothFlags := by
  unfold Obligations.HaltLatchSetsBothFlags
  intro s c v hs
  obtain ⟨-, -, -, halt, -⟩ := decodeWrite_latches c v
  rw [← haltOf_eq_decide]
  exact runsTo_writeOp (haltWrite v) hs halt rfl rfl

/-! ### Outside the map -/

/-- Settles O19: outside the map the body of an access raises. -/
theorem unmappedAccessIsFatal : Obligations.UnmappedAccessIsFatal := by
  unfold Obligations.UnmappedAccessIsFatal
  intro s c a v hs
  refine ⟨fun h => ?_, fun h => ?_⟩
  · have outside : readClass c a = .unmapped := readClass_iff.2 h
    exact runsTo_readOp (unmappedRead c a) hs (by rw [decodeRead, outside]) rfl (outcome_raise hs _ _)
  · have outside : writeClass c a = .unmapped := writeClass_iff.2 h
    exact runsTo_writeOp (unmappedWrite c a) hs (by rw [decodeWrite, outside]) rfl (outcome_raise hs _ _)

end Sys2Proof.Machine

/-!
# 16-bit accesses

A 16-bit access is two byte accesses in a row (`readPair`, `writePair`), run in the frame of every operation
(`exec_read16`, `exec_write16`). The model takes words apart by bit ranges and adds to addresses in 16 bits; the
specification says both in natural numbers, and they are the same (`joinBytes_eq_ofNat`, `eq_joinBytes_of_toNat`,
`nextAddr_eq_ofNat`).
-/
namespace Sys2Proof.Machine

open Sys2Proof.Spec

/-! ### Addresses and words -/

/-- The address after `a` wraps at 65536 (R43). -/
theorem nextAddr_eq_ofNat (a : Addr) : nextAddr a = BitVec.ofNat 16 (a.toNat + 1) := by
  rw [nextAddr, BitVec.ofNat_add, BitVec.ofNat_toNat, BitVec.setWidth_eq]
  rfl

theorem toNat_joinBytes (hi lo : Byte) : (joinBytes hi lo).toNat = hi.toNat * 256 + lo.toNat := by
  rw [joinBytes, BitVec.toNat_append, ← Nat.shiftLeft_add_eq_or_of_lt lo.isLt, Nat.shiftLeft_eq]

theorem joinBytes_eq_ofNat (hi lo : Byte) : joinBytes hi lo = BitVec.ofNat 16 (hi.toNat * 256 + lo.toNat) := by
  rw [← toNat_joinBytes, BitVec.ofNat_toNat, BitVec.setWidth_eq]

/-- The low byte of a pair of bytes is its second one (R75, R124). -/
@[simp] theorem loByte_joinBytes (hi lo : Byte) : loByte (joinBytes hi lo) = lo :=
  BitVec.extractLsb'_append_eq_right

/-- The high byte of a pair of bytes is its first one (R75, R124). -/
@[simp] theorem hiByte_joinBytes (hi lo : Byte) : hiByte (joinBytes hi lo) = hi :=
  BitVec.extractLsb'_append_eq_left

theorem eq_joinBytes_of_toNat {v : Half} {hi lo : Byte} (h : v.toNat = hi.toNat * 256 + lo.toNat) :
    v = joinBytes hi lo :=
  BitVec.eq_of_toNat_eq (h.trans (toNat_joinBytes hi lo).symm)

/-! ### The two operations -/

theorem exec_read16 {s : State} (hs : Ready s) (c : Cpu) (a : Addr) :
    exec (.read16 c a) s = ((readPair c a s).map .word).outcome :=
  issue_ready (i := .read16 c a) (fun s => (readPair c a s).map .word) hs rfl

theorem exec_write16 {s : State} (hs : Ready s) (c : Cpu) (a : Addr) (v : Half) :
    exec (.write16 c a v) s = ((writePair c a v s).map fun _ => Reply.nothing).outcome :=
  issue_ready (i := .write16 c a v) (fun s => (writePair c a v s).map fun _ => .nothing) hs rfl

/-- Settles O24: the low byte's read ends the operation or hands its byte and its state to the high byte's. -/
theorem read16IsTwoByteReads : Obligations.Read16IsTwoByteReads := by
  unfold Obligations.Read16IsTwoByteReads
  intro s c a hs
  rw [exec_read16 hs, readPair, nextAddr_eq_ofNat]
  refine ⟨fun t first => ?_, fun lo t u first second => ?_, fun lo t hi u first second => ?_⟩
  · rw [first, Ran.bind_raised]; rfl
  · rw [first, Ran.bind_done, second]; rfl
  · rw [first, Ran.bind_done, second, ← joinBytes_eq_ofNat]; rfl

/-- Settles O27: the low byte's write ends the operation or hands its state to the high byte's. -/
theorem write16IsTwoByteWrites : Obligations.Write16IsTwoByteWrites := by
  unfold Obligations.Write16IsTwoByteWrites
  intro s c a v lo hi hs hv
  rw [eq_joinBytes_of_toNat hv, exec_write16 hs, writePair, loByte_joinBytes, hiByte_joinBytes, nextAddr_eq_ofNat]
  refine ⟨fun t first => ?_, fun t u first second => ?_, fun t u first second => ?_⟩
  · rw [first, Ran.bind_raised]; rfl
  · rw [first, Ran.bind_done, second]; rfl
  · rw [first, Ran.bind_done, second]; rfl

/-! ### Reads of RAM -/

/-- Settles O20: an address in a window has the RAM read class, and the array is empty after reset. -/
theorem ramReadAnswersTheSharedCell : Obligations.RamReadAnswersTheSharedCell := by
  unfold Obligations.RamReadAnswersTheSharedCell
  intro s c a hs ha
  have window : readClass c a = .ram := readClass_iff.2 ha
  exact ⟨runsTo_readOp (ramRead a) hs (by rw [decodeRead, window]) rfl rfl, exec_ramRd (s := State.reset) rfl c ha⟩

end Sys2Proof.Machine

/-!
# Device ports

A presented PORT key is decoded as the operation of its CPU and port number (R73), whose body leaves the latch alone
unless it is CPU1's port 0 that is written. The model extends a port number to the 16 bits of an event; the
specification names the number, and they are the same (`portAddr_eq_ofNat`).
-/
namespace Sys2Proof.Machine

open Sys2Proof.Spec

theorem portAddr_eq_ofNat (p : Byte) : portAddr p = BitVec.ofNat 16 p.toNat :=
  (BitVec.ofNat_toNat 16 p).symm

/-! ### Presented keys -/

theorem decode_portKey_write (c : Cpu) (p v : Byte) :
    decode (.port (portKey true c p) (some v)) = .ok (decodePortWrite c p v) := by
  simp only [decode, if_pos (portKey_lt true c p), portCpu_portKey, portWr_portKey, portNumber_portKey]

theorem decode_portKey_read (c : Cpu) (p : Byte) : decode (.port (portKey false c p) none) = .ok (.portRd c p) := by
  simp only [decode, if_pos (portKey_lt false c p), portCpu_portKey, portWr_portKey, portNumber_portKey]

theorem decodePortWrite_other {c : Cpu} {p : Byte} (v : Byte) (h : ¬(c = .cpu1 ∧ p = 0x00)) :
    decodePortWrite c p v = .portWrOther c p v :=
  if_neg h

/-! ### The three operations -/

theorem exec_port0Wr {s : State} (hs : Ready s) (v : Byte) : exec (.port0Wr v) s = .next (silent (s.setPort0 v)) :=
  issue_ready (i := .port0Wr v) (fun s => (port0Write v s).map fun _ => .nothing) hs rfl

/-- CPU1's port 0 is no operand of this operation (R131). -/
theorem wf_portWrOther {c : Cpu} {p : Byte} (v : Byte) (h : ¬(c = .cpu1 ∧ p = 0x00)) :
    (Instr.portWrOther c p v).wf = true := by
  simpa [Instr.wf, imp_iff_not_or] using h

theorem exec_portWrOther {s : State} (hs : Ready s) {c : Cpu} {p : Byte} (v : Byte) (h : ¬(c = .cpu1 ∧ p = 0x00)) :
    exec (.portWrOther c p v) s = .next (silent (s.addDiag .port (portAddr p) v)) :=
  issue_ready (i := .portWrOther c p v) (fun s => (portOtherWrite p v s).map fun _ => .nothing) hs (wf_portWrOther v h)

theorem exec_portRd {s : State} (hs : Ready s) (c : Cpu) (p : Byte) :
    exec (.portRd c p) s = .next ((s.addDiag .port (portAddr p) 0x00).setReply (.byte 0x00)) :=
  issue_ready (i := .portRd c p) (fun s => (portRead p s).map .byte) hs rfl

/-- Settles O29: the key of each access, and the body of the operation that it is decoded as. -/
theorem onlyCpu1PortZeroLatches : Obligations.OnlyCpu1PortZeroLatches := by
  unfold Obligations.OnlyCpu1PortZeroLatches
  intro s c p v hs
  rw [← portAddr_eq_ofNat]
  refine ⟨?_, fun other => ?_, ?_⟩
  · exact ⟨decode_portKey_write .cpu1 0x00 v, exec_port0Wr hs v⟩
  · exact ⟨decodePortWrite_other v other ▸ decode_portKey_write c p v, exec_portWrOther hs v other⟩
  · exact ⟨decode_portKey_read c p, exec_portRd hs c p⟩

end Sys2Proof.Machine

/-!
# The configuration and the tables

The weights of a component add up to 0xFF at most, so a colour's components are exact sums (O37). The search for a byte
that is no colour index stops at the first one, which `reset()` records before any loop iteration (O57). No other
operation has an effect on the configuration or the tables, and `reset()` keeps the configuration (O34).
-/
namespace Sys2Proof.Machine

open Sys2Proof.Spec

/-! ### Weights -/

theorem weigh_eq_mul (weight : Nat) (b : Byte) (i : Fin 8) : weigh weight b i = weight * (b.getLsbD i.val).toNat := by
  unfold weigh
  cases b.getLsbD i.val
  · rfl
  · exact (Nat.mul_one weight).symm

/-- A weighted bit is at most its weight, so a sum of weighted bits is at most the sum of the weights. -/
theorem weigh_le (weight : Nat) (b : Byte) (i : Fin 8) : weigh weight b i ≤ weight := by
  unfold weigh
  split
  · exact Nat.le_refl weight
  · exact Nat.zero_le weight

/-- The three weights of a red or green component add up to 0xFF (R135). -/
theorem toNat_weighThree (b : Byte) (i j k : Fin 8) :
    (BitVec.ofNat 8 (weigh weightLight b i + weigh weightMiddle b j + weigh weightHeavy b k)).toNat =
      0x21 * (b.getLsbD i.val).toNat + 0x47 * (b.getLsbD j.val).toNat + 0x97 * (b.getLsbD k.val).toNat := by
  have light : weigh weightLight b i ≤ 0x21 := weigh_le _ b i
  have middle : weigh weightMiddle b j ≤ 0x47 := weigh_le _ b j
  have heavy : weigh weightHeavy b k ≤ 0x97 := weigh_le _ b k
  rw [BitVec.toNat_ofNat, Nat.mod_eq_of_lt (by omega)]
  simp only [weigh_eq_mul, weightLight, weightMiddle, weightHeavy]

/-- The two weights of a blue component add up to 0xFF (R135). -/
theorem toNat_weighTwo (b : Byte) (i j : Fin 8) :
    (BitVec.ofNat 8 (weigh weightBlueLight b i + weigh weightBlueHeavy b j)).toNat =
      0x51 * (b.getLsbD i.val).toNat + 0xAE * (b.getLsbD j.val).toNat := by
  have light : weigh weightBlueLight b i ≤ 0x51 := weigh_le _ b i
  have heavy : weigh weightBlueHeavy b j ≤ 0xAE := weigh_le _ b j
  rw [BitVec.toNat_ofNat, Nat.mod_eq_of_lt (by omega)]
  simp only [weigh_eq_mul, weightBlueLight, weightBlueHeavy]

/-- Settles O37: the answer is the model's colour, each component of which is an exact sum. -/
theorem decodeColorAddsTheWeights : Obligations.DecodeColorAddsTheWeights := by
  unfold Obligations.DecodeColorAddsTheWeights
  intro s b hs
  exact ⟨_, exec_decodeColor hs b, toNat_weighThree b _ _ _, toNat_weighThree b _ _ _, toNat_weighTwo b _ _⟩

/-! ### A refused build -/

/-- The search stops at the first byte of 32 or more, and counts it from `k` (R139). -/
theorem firstBadIndex_eq_some {k n : Nat} {l : List Byte} (hn : n < l.length) (bad : 32 ≤ l[n].toNat)
    (before : ∀ j, (hj : j < n) → l[j].toNat < 32) : firstBadIndex k l = some (k + n, l[n]) := by
  induction l generalizing k n with
  | nil => exact absurd hn (Nat.not_lt_zero n)
  | cons b l ih =>
    cases n with
    | zero => exact if_neg (Nat.not_lt.2 bad)
    | succ n =>
      have first : b.toNat < 32 := before 0 n.succ_pos
      have rest := ih (k := k + 1) (Nat.lt_of_succ_lt_succ hn) bad fun j hj => before (j + 1) (Nat.succ_lt_succ hj)
      rw [firstBadIndex, if_pos first, rest, Nat.add_right_comm, Nat.add_assoc, List.getElem_cons_succ]

/-- A lookup PROM with a byte of 32 or more is refused for the first such byte (R139). -/
theorem buildPalettes_error {lookup : Vector Byte 256} (colors : ColorTable) {i : Fin 256}
    (bad : 32 ≤ (lookup[i]).toNat) (before : ∀ j : Fin 256, j < i → (lookup[j]).toNat < 32) :
    buildPalettes lookup colors = .error (.tableBuildError .charLookup i.val lookup[i]) := by
  have search : firstBadIndex 0 lookup.toList = some (0 + i.val, lookup[i]) :=
    firstBadIndex_eq_some (by simp) bad fun j hj => before ⟨j, hj.trans i.isLt⟩ hj
  rw [buildPalettes, search, Nat.zero_add]

/-- A refused build sets the colour table and records the refusal (R221, log entry 14). -/
theorem buildTables_of_error {s : State} {k : FaultKind}
    (h : buildPalettes s.config.charLookup (buildColors s.config.colorBits s.config.colorProm) = .error k) :
    buildTables s = raise k (s.setColors (buildColors s.config.colorBits s.config.colorProm)) := by
  simp only [buildTables, State.setColors_config, State.setColors_colors, h]

/-- `reset()` with a refused build records the refusal, in place of any earlier fault (R220, R221). -/
theorem execReset_of_error {s : State} {k : FaultKind}
    (h : buildPalettes s.config.charLookup (buildColors s.config.colorBits s.config.colorProm) = .error k) :
    exec .reset s = .next (faulted (resetColored s) k) := by
  have tables : buildTables (resetCells s) = raise k (resetColored s) := buildTables_of_error h
  calc exec .reset s
      = ((buildTables (resetCells s)).map fun _ => Reply.nothing).outcome := rfl
    _ = .next (faulted (resetColored s) k) := by rw [tables]; rfl

/-- No iteration is issued once a fault is recorded (R19, R195). -/
theorem exec_loopIter_stopped {s : State} {k : FaultKind} (h : s.fault = some k) :
    exec .loopIter s = .fault (.stopped k) :=
  issue_stopped (i := .loopIter) (fun s => (iterate s).map fun _ => .nothing) h

/-- Settles O57: the build refuses the first bad byte, and with its record in the cell no iteration is issued. -/
theorem resetStopsAtABadLookupProm : Obligations.ResetStopsAtABadLookupProm := by
  unfold Obligations.ResetStopsAtABadLookupProm
  intro s i bad before
  exact ⟨_, execReset_of_error (buildPalettes_error _ bad before), rfl, exec_loopIter_stopped rfl⟩

/-! ### What stays fixed -/

/-- `reset()` keeps the configuration, whether it completes or not (R20). -/
theorem reset_config {s t : State} (h : exec .reset s = .next t) : t.config = s.config := by
  rcases execReset_next h with ⟨_, rfl⟩ | ⟨_, rfl⟩
  · rfl
  · rfl

/-- Settles O34: the frame of the effects for every operation but `reset()`, which keeps the configuration. -/
theorem configurationAndTablesAreFixed : Obligations.ConfigurationAndTablesAreFixed := by
  unfold Obligations.ConfigurationAndTablesAreFixed
  intro i s t h
  by_cases hi : i = .reset
  · subst hi
    exact ⟨reset_config h, absurd rfl⟩
  · obtain ⟨u, r, effects, rfl⟩ := exec_effects hi h
    have frame := effects.frame
    exact ⟨frame.config, fun _ => ⟨frame.colors, frame.palettes⟩⟩

end Sys2Proof.Machine

/-!
# Rendered tiles

A tile's pixel is the palette's colour for an entry of two bits (`renderTile_pixel`), and the entry is fixed by the
two bits that the layout names (`tileEntry_eq`). In a tile of sixteen equal bytes the bytes that hold those bits do not
matter, only their positions do (`tileEntry_of_uniform`). The default layout of R147 has every plane 0 bit in the low
half of its byte and every plane 1 bit in the high half.
-/
namespace Sys2Proof.Machine

open Sys2Proof.Spec

/-- `render_tile` answers the tile and writes nothing (R148). -/
theorem exec_renderTile {s : State} (hs : Ready s) (t : Byte) (p : BitVec 6) :
    exec (.renderTile t p) s = .next (s.setReply (.tile (s.renderTile t p))) :=
  issue_ready (i := .renderTile t p) (fun s => .done (.tile (s.renderTile t p)) s) hs rfl

/-! ### Pixels and entries -/

/-- A pixel is the opaque colour of its entry in the tile's palette (R148, R149). -/
theorem renderTile_pixel (s : State) (t : Byte) (p : BitVec 6) {x y : Fin 8} {e : Fin 4}
    (h : tileEntry s.config.tileRom s.config.tileLayout t x y = e) :
    (s.renderTile t p)[y][x] = opaquePixel s.palettes[p.toFin][e] :=
  h ▸ renderTile_get _ _ _ t p x y x.isLt y.isLt

section

variable {rom : Memory} {layout : TileLayout} {t : Byte}

/-- The number of the two plane bits is below 4, so the entry is that number (R146). -/
theorem tileEntry_eq {x y : Fin 8} {e : Fin 4} {plane0 plane1 : Bool}
    (h0 : (tileByte rom t layout[8 * y.val + x.val].byte0).getLsbD layout[8 * y.val + x.val].bit0.val = plane0)
    (h1 : (tileByte rom t layout[8 * y.val + x.val].byte1).getLsbD layout[8 * y.val + x.val].bit1.val = plane1)
    (he : e.val = 2 * plane1.toNat + plane0.toNat) : tileEntry rom layout t x y = e := by
  simp only [tileEntry, h0, h1, ← he]
  exact Fin.ofNat_val_eq_self e

/-- In a tile of equal bytes `b` the entry is that of the two named positions of `b` (R146). -/
theorem tileEntry_of_uniform {b : Byte} (uniform : ∀ k, k < 16 → rom.read (16 * t.toNat + k) = b) {x y : Fin 8}
    {e : Fin 4} {plane0 plane1 : Bool} (h0 : b.getLsbD layout[8 * y.val + x.val].bit0.val = plane0)
    (h1 : b.getLsbD layout[8 * y.val + x.val].bit1.val = plane1) (he : e.val = 2 * plane1.toNat + plane0.toNat) :
    tileEntry rom layout t x y = e := by
  have same (k : Fin 16) : tileByte rom t k = b := uniform k k.isLt
  exact tileEntry_eq ((same _).symm ▸ h0) ((same _).symm ▸ h1) he

end

/-! ### The default layout -/

theorem defaultLayout_get (x y : Fin 8) :
    TileLayout.default[8 * y.val + x.val] = defaultPixelBits x.val y.val := by
  rw [TileLayout.default, Vector.getElem_ofFn]
  congr 1 <;> dsimp only <;> omega

/-- Plane 0 stands in the low half of its byte (R147). -/
theorem defaultLayout_bit0_lt (x y : Fin 8) : TileLayout.default[8 * y.val + x.val].bit0.val < 4 := by
  rw [defaultLayout_get]
  simp only [defaultPixelBits, Fin.val_ofNat]
  omega

/-- Plane 1 stands in the high half of its byte (R147). -/
theorem defaultLayout_bit1_ge (x y : Fin 8) : 4 ≤ TileLayout.default[8 * y.val + x.val].bit1.val := by
  rw [defaultLayout_get]
  simp only [defaultPixelBits, Fin.val_ofNat]
  omega

/-! ### The bits of the four bytes -/

theorem getLsbD_ones (i : Fin 8) : (0xFF : Byte).getLsbD i.val = true := by
  revert i; decide

theorem getLsbD_lowHalf (i : Fin 8) : (0x0F : Byte).getLsbD i.val = decide (i.val < 4) := by
  revert i; decide

theorem getLsbD_highHalf (i : Fin 8) : (0xF0 : Byte).getLsbD i.val = decide (4 ≤ i.val) := by
  revert i; decide

/-! ### Uniform tiles -/

/-- The entry of every pixel of a tile of equal bytes, by the byte (R146, R147). -/
theorem tileEntry_of_uniform_cases {rom : Memory} {layout : TileLayout} {t b : Byte} {e : Fin 4}
    (uniform : ∀ k, k < 16 → rom.read (16 * t.toNat + k) = b)
    (byte : (b = 0x00 ∧ e = 0) ∨ (b = 0xFF ∧ e = 3) ∨ (layout = TileLayout.default ∧
      ((b = 0x0F ∧ e = 1) ∨ (b = 0xF0 ∧ e = 2)))) (x y : Fin 8) : tileEntry rom layout t x y = e := by
  rcases byte with ⟨rfl, rfl⟩ | ⟨rfl, rfl⟩ | ⟨rfl, half⟩
  · exact tileEntry_of_uniform uniform BitVec.getLsbD_zero BitVec.getLsbD_zero rfl
  · exact tileEntry_of_uniform uniform (getLsbD_ones _) (getLsbD_ones _) rfl
  · have low := defaultLayout_bit0_lt x y
    have high := defaultLayout_bit1_ge x y
    rcases half with ⟨rfl, rfl⟩ | ⟨rfl, rfl⟩
    · have plane0 := (getLsbD_lowHalf _).trans (decide_eq_true low)
      have plane1 := (getLsbD_lowHalf _).trans (decide_eq_false (Nat.not_lt.2 high))
      exact tileEntry_of_uniform uniform plane0 plane1 rfl
    · have plane0 := (getLsbD_highHalf _).trans (decide_eq_false (Nat.not_le.2 low))
      have plane1 := (getLsbD_highHalf _).trans (decide_eq_true high)
      exact tileEntry_of_uniform uniform plane0 plane1 rfl

/-! ### The statements -/

/-- Settles O42: the pixel is that of the entry, which is the number of the two named bits. -/
theorem renderTilePaintsEachPixel : Obligations.RenderTilePaintsEachPixel := by
  unfold Obligations.RenderTilePaintsEachPixel
  intro s t p hs
  exact ⟨_, exec_renderTile hs t p, fun x y e he => renderTile_pixel s t p (tileEntry_eq rfl rfl he)⟩

/-- Settles O43: every pixel of the tile has the same entry. -/
theorem uniformTilesAreOneColor : Obligations.UniformTilesAreOneColor := by
  unfold Obligations.UniformTilesAreOneColor
  intro s t p b e hs uniform byte
  exact ⟨_, exec_renderTile hs t p, fun x y => renderTile_pixel s t p (tileEntry_of_uniform_cases uniform byte x y)⟩

end Sys2Proof.Machine

/-!
# The composed frame

A visit of the composer is known by its grid position: the ones at visible column `c` and row `r` are of slot
`slotAt c r` alone, and there is one (`mem_visits_iff`). So every pixel of the frame is that of one slot's tile
(`composedFrame_pixel`), whatever the order of the visits and whatever the frame held, and the closed form never names
a hidden slot (`slotAt_not_hidden`).
-/
namespace Sys2Proof.Machine

open Sys2Proof.Spec

/-- `compose_frame` writes the frame and nothing else (R163). -/
theorem exec_composeFrame {s : State} (hs : Ready s) :
    exec .composeFrame s = .next (silent (s.setFrame (composedFrame s))) :=
  issue_ready (i := .composeFrame) (fun s => .done .nothing (compose s)) hs rfl

/-! ### A slot's two bytes -/

/-- The six bits that are extracted are the byte under the mask `0x3F` (R156). -/
theorem paletteOfAttr_eq_ofNat (attr : Byte) : paletteOfAttr attr = BitVec.ofNat 6 (attr &&& 0x3F).toNat := by
  have masked : (attr &&& 0x3F).toNat = attr.toNat % 2 ^ 6 := by
    rw [BitVec.toNat_and]
    exact Nat.and_two_pow_sub_one_eq_mod attr.toNat 6
  apply BitVec.eq_of_toNat_eq
  rw [BitVec.toNat_ofNat, masked, Nat.mod_mod]
  simp [paletteOfAttr]

/-- A slot's tile is that of its two bytes under the masks (R156, R157). -/
theorem slotTile_eq_renderTile (s : State) (i : Nat) :
    slotTile s i = s.renderTile (s.mem.read (0x8000 + i) &&& 0x7F)
      (BitVec.ofNat 6 (s.mem.read (0x8400 + i) &&& 0x3F).toNat) := by
  rw [slotTile, paletteOfAttr_eq_ofNat]
  rfl

/-- Everything that a slot's tile depends on: the tile ROM, the layout, the palettes, seven bits and six bits. -/
theorem slotTile_congr {s t : State} {i : Nat} (rom : s.config.tileRom = t.config.tileRom)
    (layout : s.config.tileLayout = t.config.tileLayout) (palettes : s.palettes = t.palettes)
    (code : s.mem.read (0x8000 + i) &&& 0x7F = t.mem.read (0x8000 + i) &&& 0x7F)
    (attr : s.mem.read (0x8400 + i) &&& 0x3F = t.mem.read (0x8400 + i) &&& 0x3F) : slotTile s i = slotTile t i := by
  simp only [slotTile_eq_renderTile, State.renderTile, rom, layout, palettes, code, attr]

/-- The tile RAM is a RAM window, so CPU1's byte read of it answers the shared cell (R48, R120). -/
theorem exec_decodeRead_tileRam {s : State} (hs : Ready s) {n : Nat} (hn : n < 0x800) :
    exec (decodeRead .cpu1 (BitVec.ofNat 16 (0x8000 + n))) s =
      .next (s.setReply (.byte (s.mem.read (0x8000 + n)))) := by
  have address : (BitVec.ofNat 16 (0x8000 + n)).toNat = 0x8000 + n := Nat.mod_eq_of_lt (by omega)
  have window : inRamWindow (BitVec.ofNat 16 (0x8000 + n)) = true := inRamWindow_iff.2 (.inl (by omega))
  have answer := exec_ramRd hs .cpu1 window
  rw [address] at answer
  rwa [decodeRead, readClass_ram_iff.2 window]

/-! ### The visit at a grid position -/

/-- The strip at row `row` of the grid visits every column, the slots descending from the left (R159 to R162). -/
theorem mk_mem_stripVisits {first row slot c r : Nat} :
    { slot := slot, col := c, row := r } ∈ stripVisits first row ↔ r = row ∧ c < 32 ∧ slot = first - c := by
  rw [mem_stripVisits]
  constructor
  · rintro ⟨k, hk, hv⟩
    cases hv
    exact ⟨rfl, hk, rfl⟩
  · rintro ⟨rfl, hc, rfl⟩
    exact ⟨c, hc, rfl⟩

/-- The playfield visits the rows 2 to 33, a column of 32 slots at a time from the right (R158). -/
theorem mk_mem_playfieldVisits {slot c r : Nat} :
    { slot := slot, col := c, row := r } ∈ playfieldVisits ↔
      (2 ≤ r ∧ r ≤ 33) ∧ (2 ≤ c ∧ c ≤ 29) ∧ slot = 0x040 + 32 * (29 - c) + (r - 2) := by
  rw [mem_playfieldVisits]
  simp only [Visit.mk.injEq]
  constructor
  · rintro ⟨n, hn, hslot, hc, hr⟩
    omega
  · intro h
    exact ⟨32 * (29 - c) + (r - 2), by omega⟩

/-- Each visible grid position is visited by the slot of the closed form and by no other (R163, R164). -/
theorem mem_visits_iff {slot c r : Nat} (hc : c < 28) :
    { slot := slot, col := c + 2, row := r } ∈ visits ↔ r < 36 ∧ slot = slotAt c r := by
  simp only [visits, List.mem_append, mk_mem_playfieldVisits, mk_mem_stripVisits, slotAt]
  split_ifs <;> omega

/-- The closed form names a slot of the tile RAM, and none of the sixteen hidden ones (R164). -/
theorem slotAt_not_hidden {c r : Nat} (hc : c < 28) (hr : r < 36) : slotAt c r < 0x400 ∧ slotAt c r ∉ hiddenSlots := by
  simp only [slotAt, hiddenSlots, List.mem_cons, List.not_mem_nil, or_false]
  split_ifs <;> omega

/-! ### The pixels -/

/-- In the visible columns a visit covers the pixels of its own 8×8 square of the grid (R155, R157). -/
theorem covers_iff_of_lt {col row x y : Nat} (hx : x < 224) :
    covers col row x y = true ↔ col = x / 8 + 2 ∧ row = y / 8 := by
  rw [covers_iff]
  omega

/-- A pixel of the frame is that of the tile of the slot of the closed form (R164). -/
theorem composedFrame_pixel (s : State) {x y : Nat} (hx : x < 224) (hy : y < 288) :
    (composedFrame s)[y][x] = tilePixelUnder (slotTile s (slotAt (x / 8) (y / 8))) x y := by
  have column : x / 8 < 28 := by omega
  have row : y / 8 < 36 := by omega
  rw [composedFrame_get s x y hx hy]
  refine foldl_visitSlot_hit s visits _ x y _ (fun v hv covered => ?_) ?_
  · obtain ⟨slot, c, r⟩ := v
    obtain ⟨rfl, rfl⟩ := (covers_iff_of_lt hx).1 covered
    exact ((mem_visits_iff column).1 hv).2
  · exact ⟨_, (mem_visits_iff column).2 ⟨row, rfl⟩, (covers_iff_of_lt hx).2 ⟨rfl, rfl⟩⟩

/-- Machines that give every slot but the hidden ones the same tile compose the same frame (R164). -/
theorem composedFrame_congr {s t : State} (h : ∀ i, i < 0x400 → i ∉ hiddenSlots → slotTile s i = slotTile t i) :
    composedFrame s = composedFrame t := by
  ext y hy x hx : 2
  obtain ⟨bound, visible⟩ := slotAt_not_hidden (c := x / 8) (r := y / 8) (by omega) (by omega)
  rw [composedFrame_pixel s hx hy, composedFrame_pixel t hx hy, h _ bound visible]

/-! ### The statements -/

/-- Settles O44: both bytes lie in the tile RAM, and the tile is that of the bytes under the masks. -/
theorem slotIsReadThroughCpu1sView : Obligations.SlotIsReadThroughCpu1sView := by
  unfold Obligations.SlotIsReadThroughCpu1sView
  intro s i hs hi
  have attrRead := exec_decodeRead_tileRam hs (n := 0x400 + i) (by omega)
  rw [← Nat.add_assoc] at attrRead
  refine ⟨_, _, exec_decodeRead_tileRam hs (by omega), attrRead, ?_⟩
  rw [slotTile_eq_renderTile, exec_renderTile hs]

/-- Settles O45: the slot of the closed form is the one whose tile the pixel is of. -/
theorem composedFrameIsTheClosedForm : Obligations.ComposedFrameIsTheClosedForm := by
  unfold Obligations.ComposedFrameIsTheClosedForm
  intro s hs
  refine ⟨_, exec_composeFrame hs, fun x y => ⟨_, exec_renderTile hs _ _, ?_⟩⟩
  rw [← slotTile_eq_renderTile]
  exact composedFrame_pixel s x.isLt y.isLt

/-- Settles O46: where the machines agree, every slot that the closed form names has the same tile. -/
theorem frameKeepsNothingElse : Obligations.FrameKeepsNothingElse := by
  unfold Obligations.FrameKeepsNothingElse
  intro s t hs ht rom layout palettes bytes
  have tiles : ∀ i, i < 0x400 → i ∉ hiddenSlots → slotTile s i = slotTile t i := by
    intro i bound visible
    obtain ⟨code, attr⟩ := bytes i bound visible
    exact slotTile_congr rom layout palettes code attr
  refine ⟨composedFrame t, ?_, exec_composeFrame ht⟩
  rw [exec_composeFrame hs, composedFrame_congr tiles]

end Sys2Proof.Machine

/-!
# The loop

An operation of the loop answers the state its body ends in, done or raised (`exec_loopIter`, `exec_vblankService`,
`exec_handleInterrupts`). An iteration is three steps and a check (`iterate_eq_checkVblank`), and what a step does is
known where the engine's turn is given as data.
-/
namespace Sys2Proof.Machine

open Sys2Proof.Spec

/-! ### The operations of the loop -/

theorem outcome_map_nothing {α : Type} (r : Ran α) :
    (r.map fun _ => Reply.nothing).outcome = .next (silent r.state) := by
  cases r <;> rfl

section

variable {s : State} (hs : Ready s)

include hs

theorem exec_loopIter : exec .loopIter s = .next (silent (iterate s).state) :=
  (issue_ready (i := .loopIter) (fun s => (iterate s).map fun _ => .nothing) hs rfl).trans (outcome_map_nothing _)

theorem exec_handleInterrupts (n : Nat) :
    exec (.handleInterrupts n) s = .next (silent (checkVblank n s).state) :=
  (issue_ready (i := .handleInterrupts n) (fun s => (checkVblank n s).map fun _ => .nothing) hs rfl).trans
    (outcome_map_nothing _)

theorem exec_vblankService : exec .vblankService s = .next (silent (vblank s).state) :=
  (issue_ready (i := .vblankService) (fun s => (vblank s).map fun _ => .nothing) hs rfl).trans (outcome_map_nothing _)

end

/-- A next state of `loop_iter` with no fault recorded is that of an iteration that was done. -/
theorem iterate_done_of_exec {s t : State} (h : exec .loopIter s = .next t) (ht : t.fault = none) :
    ∃ u, iterate s = .done () u ∧ t = silent u := by
  obtain ⟨hs, _⟩ := exec_next Instr.noConfusion h
  rw [exec_loopIter hs, ← outcome_map_nothing] at h
  obtain ⟨_, u, hu, rfl⟩ := Ran.done_of_outcome h ht (iterate_run s).raised
  exact ⟨u, hu, rfl⟩

/-- A next state of `vblank_service` with no fault recorded is that of a service that was done. -/
theorem vblank_done_of_exec {s t : State} (h : exec .vblankService s = .next t) (ht : t.fault = none) :
    Ready s ∧ ∃ u, vblank s = .done () u ∧ t = silent u := by
  obtain ⟨hs, _⟩ := exec_next Instr.noConfusion h
  rw [exec_vblankService hs, ← outcome_map_nothing] at h
  obtain ⟨_, u, hu, rfl⟩ := Ran.done_of_outcome h ht (vblank_run s).raised
  exact ⟨hs, u, hu, rfl⟩

/-- Settles O49: `handle_interrupts` is the check. -/
theorem vblankCheckComparesWithTheThreshold : Obligations.VblankCheckComparesWithTheThreshold := by
  unfold Obligations.VblankCheckComparesWithTheThreshold
  intro s n hs
  have hc : Ready (s.setCsi (s.csi + n)) := hs
  refine ⟨fun below => ?_, fun due => ?_⟩
  · rw [exec_handleInterrupts hs, checkVblank_below below, Ran.state_done]
  · rw [exec_handleInterrupts hs, checkVblank_due due, exec_vblankService hc]

/-- What follows a result that is done. -/
theorem Ran.bind_eq_done_iff {α β : Type} {r : Ran α} {f : α → State → Ran β} {v : β} {t : State} :
    r.bind f = .done v t ↔ ∃ a u, r = .done a u ∧ f a u = .done v t := by
  cases r <;> simp

/-- An iteration whose steps are done comes down to the check on CPU1's cycles (R174, R184). -/
theorem iterate_eq_checkVblank {s t u w : State} {n : Nat} (h1 : stepEngine .cpu1 s = .done n t)
    (h2 : stepUnlessHalted .cpu2 t = .done () u) (h3 : stepUnlessHalted .cpu3 u = .done () w) :
    iterate s = checkVblank n w := by
  rw [iterate, h1, Ran.bind_done, h2, Ran.bind_done, h3, Ran.bind_done]

/-- An iteration that is done had its steps done, and ends as its check does. -/
theorem iterate_eq_done {s x : State} (h : iterate s = .done () x) :
    ∃ n t u w, stepEngine .cpu1 s = .done n t ∧ stepUnlessHalted .cpu2 t = .done () u ∧
      stepUnlessHalted .cpu3 u = .done () w ∧ checkVblank n w = .done () x := by
  obtain ⟨n, t, h1, h⟩ := Ran.bind_eq_done_iff.1 h
  obtain ⟨_, u, h2, h⟩ := Ran.bind_eq_done_iff.1 h
  obtain ⟨_, w, h3, h⟩ := Ran.bind_eq_done_iff.1 h
  exact ⟨n, t, u, w, h1, h2, h3, h⟩

/-! ### Turns given as data -/

theorem setEngine_get (s : State) (c : Cpu) : s.setEngine c (s.engines.get c) = s := by
  cases c <;> rfl

/-- The engine after it accepted an injection with the turn given next. -/
def accepted (e : Engine) : Engine :=
  match e.accepts with
  | t :: rest => { e with code := t.code, accepts := rest }
  | [] => e

section

variable {c : Cpu} {s : State} {e : Engine} {k d : Nat} {rest : List Turn}

/-- A step with no transaction moves the engine on. -/
theorem stepEngine_quiet (he : s.engines.get c = e) (h : e.steps = quiet k d :: rest) :
    stepEngine c s = .done k (s.setEngine c (afterTurn e (quiet k d) rest)) := by
  subst he
  exact stepEngine_noActs h

/-- A step with no transaction, where the CPU is not Halted (R174). -/
theorem stepUnlessHalted_quiet {b : Bool} (he : s.engines.get c = e) (hb : s.halted c = b)
    (h : e.steps = quiet k d :: rest) :
    stepUnlessHalted c s = .done () (s.setEngine c (if b then e else afterTurn e (quiet k d) rest)) := by
  subst he
  cases b with
  | true => rw [stepUnlessHalted_halted hb, if_pos rfl, setEngine_get]
  | false => rw [stepUnlessHalted_running hb, stepEngine_quiet rfl h]; rfl

/-- An injection that the engine accepts with no transaction is recorded and moves the engine on (R171). -/
theorem inject_quiet (inj : Injection) (he : s.engines.get c = e) (h : e.accepts = quiet k d :: rest) :
    inject c inj s = .done () ((s.addIrq c inj).setEngine c (accepted e)) := by
  subst he
  rw [inject_noActs inj h, accepted, h]
  rfl

theorem write8_haltLatch (c : Cpu) (v : Byte) (s : State) :
    write8 c 0x6823 v s = .done () ((s.setHalt2 (haltOf v)).setHalt3 (haltOf v)) := by
  have latch : writeClass c 0x6823 = .halt := writeClass_iff.2 rfl
  rw [write8, latch]
  rfl

/-- A step that writes the halt latch sets both flags and moves the engine on (R105). -/
theorem stepEngine_haltWrite {v : Byte} (he : s.engines.get c = e) (h : e.steps = oneWrite 0x6823 v k d :: rest) :
    stepEngine c s = .done k (((s.setHalt2 (haltOf v)).setHalt3 (haltOf v)).setEngine c
      (afterTurn e (oneWrite 0x6823 v k d) rest)) := by
  subst he
  have prog : turnProg (oneWrite 0x6823 v k d) = .write8 0x6823 v (.finish k d) := rfl
  rw [stepEngine_of_steps h, runEngine, prog, runProg, write8_haltLatch]
  cases c <;> rfl

/-- The same where the CPU is Running (R174). -/
theorem stepUnlessHalted_haltWrite {v : Byte} (he : s.engines.get c = e) (running : s.halted c = false)
    (h : e.steps = oneWrite 0x6823 v k d :: rest) :
    stepUnlessHalted c s = .done () (((s.setHalt2 (haltOf v)).setHalt3 (haltOf v)).setEngine c
      (afterTurn e (oneWrite 0x6823 v k d) rest)) := by
  rw [stepUnlessHalted_running running, stepEngine_haltWrite he h, Ran.map_done]

end

/-- An iteration whose steps are done and do not reach the threshold adds CPU1's cycles to the count (R174, R175). -/
theorem exec_loopIter_below {s t u w : State} {n csi : Nat} (hs : Ready s) (h1 : stepEngine .cpu1 s = .done n t)
    (h2 : stepUnlessHalted .cpu2 t = .done () u) (h3 : stepUnlessHalted .cpu3 u = .done () w) (hw : w.csi = csi)
    (below : csi + n < 51200) : exec .loopIter s = .next (silent (w.setCsi (csi + n))) := by
  subst hw
  rw [exec_loopIter hs, iterate_eq_checkVblank h1 h2 h3, checkVblank_below below, Ran.state_done]

/-- Settles O47: CPU1's step, the steps of CPU2 and CPU3 unless Halted, and a check below the threshold. -/
theorem iterationStepsTheRunningCpus : Obligations.IterationStepsTheRunningCpus := by
  unfold Obligations.IterationStepsTheRunningCpus
  intro s k1 k2 k3 d1 d2 d3 r1 r2 r3 hs h1 h2 h3 below
  exact exec_loopIter_below hs (stepEngine_quiet (c := .cpu1) rfl h1) (stepUnlessHalted_quiet (c := .cpu2) rfl rfl h2)
    (stepUnlessHalted_quiet (c := .cpu3) rfl rfl h3) rfl below

/-- A choice by the byte is a choice by the flag that it sets (R105). -/
theorem ite_haltOf {α : Type} (v : Byte) (x y : α) :
    (if v = 0x00 then x else y) = if haltOf v then x else y := by
  simp [haltOf]

/-- Settles O48: the steps after the write find the flags that it set. -/
theorem haltLatchActsInTheSameIteration : Obligations.HaltLatchActsInTheSameIteration := by
  unfold Obligations.HaltLatchActsInTheSameIteration
  intro s v k1 k2 k3 d1 d2 d3 r1 r2 r3 hs below h3
  simp only [ite_haltOf, ← haltOf_eq_decide]
  refine ⟨fun h1 h2 => ?_, fun running h1 h2 => ?_⟩
  · exact exec_loopIter_below hs (stepEngine_haltWrite (c := .cpu1) rfl h1)
      (stepUnlessHalted_quiet (c := .cpu2) rfl rfl h2) (stepUnlessHalted_quiet (c := .cpu3) rfl rfl h3) rfl below
  · have first := stepEngine_quiet (c := .cpu1) rfl h1
    have second := stepUnlessHalted_haltWrite (c := .cpu2)
      (s := s.setEngine .cpu1 (afterTurn s.engines.c1 (quiet k1 d1) r1)) rfl running h2
    have next := exec_loopIter_below (csi := s.csi) hs first second
      (stepUnlessHalted_quiet (c := .cpu3) (e := s.engines.c3) (b := haltOf v) rfl rfl h3) (by simp) below
    -- CPU1's engine moved on before the flags were set; the updates meet different fields.
    rw [next]
    simp [State.setEngine, PerCpu.set, State.setHalt2, State.setHalt3, State.setCsi]

end Sys2Proof.Machine

/-!
# The VBLANK service

The services of the three CPUs are one operation over the CPU (`serviceOf`): it is skipped, or it is an injection, which
keeps the count, the frames and the other engines (`ServiceFrame`). So the frame that the video path hands over is the
service's, and the count is zeroed at its end alone. The steps of an iteration keep the count and the two streams that
the service feeds (`StreamsKept`), so those change in the check alone.
-/
namespace Sys2Proof.Machine

open Sys2Proof.Spec

/-! ### The services -/

/-- The service of CPU `c` (R178 to R180). -/
def serviceOf : Cpu → State → Ran Unit
  | .cpu1 => serviceCpu1
  | .cpu2 => serviceCpu2
  | .cpu3 => serviceCpu3

/-- What the service injects into CPU `c` (R178 to R180). -/
def serviceInjection (s : State) : Cpu → Injection
  | .cpu1 => .maskable s.port0
  | .cpu2 => .maskable 0x00
  | .cpu3 => .nmi

/-- What the service does before it injects: CPU `c` is released and its enable cleared (R178 to R180). -/
def released (s : State) : Cpu → State
  | .cpu1 => s.setIe .cpu1 false
  | .cpu2 => (s.setHalt2 false).setIe .cpu2 false
  | .cpu3 => (s.setHalt3 false).setIe .cpu3 false

section

variable {c : Cpu} {s t : State}

theorem serviceOf_disabled (h : s.ie.get c = false) : serviceOf c s = .done () s := by
  cases c with
  | cpu1 => exact serviceCpu1_disabled h
  | cpu2 => exact serviceCpu2_disabled h
  | cpu3 => exact serviceCpu3_disabled h

theorem serviceOf_enabled (h : s.ie.get c = true) :
    serviceOf c s = inject c (serviceInjection s c) (released s c) := by
  cases c with
  | cpu1 => exact serviceCpu1_enabled h
  | cpu2 => exact serviceCpu2_enabled h
  | cpu3 => exact serviceCpu3_enabled h

/-- A service that injects does to the block what the engine does, and records the injection (R171). -/
theorem serviceOf_enabled_frame (h : s.ie.get c = true) :
    EngineFrame c (s.addIrq c (serviceInjection s c)) (serviceOf c s).state := by
  rw [serviceOf_enabled h]
  have f := inject_frame c (serviceInjection s c) (released s c)
  cases c <;> exact { f with }

/-- The count and the frames are the same. -/
structure FramesKept (s t : State) : Prop where
  csi : t.csi = s.csi
  frame : t.frame = s.frame
  frameOut : t.frameOut = s.frameOut

theorem FramesKept.trans {s t u : State} (h : FramesKept s t) (k : FramesKept t u) : FramesKept s u :=
  ⟨k.csi.trans h.csi, k.frame.trans h.frame, k.frameOut.trans h.frameOut⟩

/-- What the service of CPU `c` keeps: the count, the frames and the other engines. -/
structure ServiceFrame (c : Cpu) (s t : State) : Prop extends FramesKept s t where
  others : ∀ d, d ≠ c → t.engines.get d = s.engines.get d

theorem serviceOf_frame (c : Cpu) (s : State) : ServiceFrame c s (serviceOf c s).state := by
  cases h : s.ie.get c with
  | false => rw [serviceOf_disabled h]; exact ⟨⟨rfl, rfl, rfl⟩, fun _ _ => rfl⟩
  | true =>
    have f := serviceOf_enabled_frame h
    exact ⟨⟨f.csi, f.frame, f.frameOut⟩, f.others⟩

theorem serviceOf_done (h : serviceOf c s = .done () t) : ServiceFrame c s t := by
  have f := serviceOf_frame c s
  rwa [h] at f

/-- A service ends in a fault only where it injects, and the injection stands (log entry 21). -/
theorem serviceOf_raised (h : serviceOf c s = .raised t) :
    ServiceFrame c s t ∧ t.irqOut = s.irqOut ++ [(c, serviceInjection s c)] := by
  have f := serviceOf_frame c s
  rw [h] at f
  refine ⟨f, ?_⟩
  cases he : s.ie.get c with
  | false => rw [serviceOf_disabled he] at h; cases h
  | true =>
    have injected := (serviceOf_enabled_frame he).irqOut
    rwa [h] at injected

end

/-- The video path composes a frame and hands it over (R177). -/
theorem videoPath_eq (s : State) : videoPath s = (s.setFrame (composedFrame s)).addFrame (composedFrame s) := rfl

@[simp] theorem videoPath_ie (s : State) : (videoPath s).ie = s.ie := by simp [videoPath_eq]

@[simp] theorem videoPath_port0 (s : State) : (videoPath s).port0 = s.port0 := by simp [videoPath_eq]

@[simp] theorem videoPath_irqOut (s : State) : (videoPath s).irqOut = s.irqOut := by simp [videoPath_eq]

@[simp] theorem videoPath_engines (s : State) : (videoPath s).engines = s.engines := by simp [videoPath_eq]

/-- The count and the streams after the video path, where what follows keeps the count and the frames. -/
theorem FramesKept.of_videoPath {s t : State} (h : FramesKept (videoPath s) t) :
    t.csi = s.csi ∧ t.frame = composedFrame s ∧ t.frameOut = s.frameOut ++ [t.frame] := by
  obtain ⟨csi, frame, frameOut⟩ := h
  simp [csi, frame, frameOut, videoPath_eq]

/-- A service that is done had its three parts done, and zeroes the count (R176, R181). -/
theorem vblank_eq_done {s x : State} (h : vblank s = .done () x) :
    ∃ t u w, serviceOf .cpu1 (videoPath s) = .done () t ∧ serviceOf .cpu2 t = .done () u ∧
      serviceOf .cpu3 u = .done () w ∧ x = w.setCsi 0 := by
  obtain ⟨_, t, h1, h⟩ := Ran.bind_eq_done_iff.1 h
  obtain ⟨_, u, h2, h⟩ := Ran.bind_eq_done_iff.1 h
  obtain ⟨_, w, h3, h⟩ := Ran.bind_eq_done_iff.1 h
  exact ⟨t, u, w, h1, h2, h3, by cases h; rfl⟩

/-- A service that is done has handed over the frame it composed (R177). -/
theorem vblank_done_frame {s x : State} (h : vblank s = .done () x) :
    x.frame = composedFrame s ∧ x.frameOut = s.frameOut ++ [composedFrame s] := by
  obtain ⟨t, u, w, h1, h2, h3, rfl⟩ := vblank_eq_done h
  have kept := (serviceOf_done h1).toFramesKept.trans
    ((serviceOf_done h2).toFramesKept.trans (serviceOf_done h3).toFramesKept)
  obtain ⟨_, frame, frameOut⟩ := kept.of_videoPath
  exact ⟨frame, frame ▸ frameOut⟩

/-- Settles O51: no fault is recorded, so the service was done. -/
theorem everyVblankHandsOverOneFrame : Obligations.EveryVblankHandsOverOneFrame := by
  unfold Obligations.EveryVblankHandsOverOneFrame
  intro s t h ht
  obtain ⟨hs, u, hu, rfl⟩ := vblank_done_of_exec h ht
  obtain ⟨frame, frameOut⟩ := vblank_done_frame hu
  have csi : u.csi = 0 := vblank_csi hu
  exact ⟨csi, composedFrame s, frame, frameOut, exec_composeFrame hs⟩

/-! ### The service with quiet engines -/

/-- The state after a service whose engine accepts without a transaction. -/
def served (s : State) (c : Cpu) : State :=
  if s.ie.get c then
    ((released s c).addIrq c (serviceInjection s c)).setEngine c (accepted (s.engines.get c))
  else s

theorem serviceOf_quiet {c : Cpu} {s : State}
    (h : s.ie.get c = true → ∃ k d rest, (s.engines.get c).accepts = quiet k d :: rest) :
    serviceOf c s = .done () (served s c) := by
  cases he : s.ie.get c with
  | false => rw [serviceOf_disabled he, served, he]; rfl
  | true =>
    obtain ⟨k, d, rest, hq⟩ := h he
    have engine : (released s c).engines = s.engines := by cases c <;> rfl
    rw [serviceOf_enabled he, inject_quiet _ (by rw [engine]) hq, served, he]
    rfl

/-- The engine of CPU `c` after its service. -/
def servedEngine (s : State) (c : Cpu) : Engine :=
  if s.ie.get c then accepted (s.engines.get c) else s.engines.get c

theorem served_cpu1 (s : State) : served s .cpu1 = { s with
    ie := { s.ie with c1 := false }
    irqOut := s.irqOut ++ if s.ie.c1 then [(.cpu1, .maskable s.port0)] else []
    engines := s.engines.set .cpu1 (servedEngine s .cpu1) } := by
  obtain ⟨_, _, _, _, _, ⟨i1, _, _⟩⟩ := s
  cases i1
  · simp [served, servedEngine, PerCpu.set]
  · rfl

theorem served_cpu2 (s : State) : served s .cpu2 = { s with
    ie := { s.ie with c2 := false }
    halt2 := s.halt2 && !s.ie.c2
    irqOut := s.irqOut ++ if s.ie.c2 then [(.cpu2, .maskable 0x00)] else []
    engines := s.engines.set .cpu2 (servedEngine s .cpu2) } := by
  obtain ⟨_, _, _, _, _, ⟨_, i2, _⟩⟩ := s
  cases i2
  · simp [served, servedEngine, PerCpu.set]
  · simp [served, servedEngine, released, serviceInjection] <;> rfl

theorem served_cpu3 (s : State) : served s .cpu3 = { s with
    ie := { s.ie with c3 := false }
    halt3 := s.halt3 && !s.ie.c3
    irqOut := s.irqOut ++ if s.ie.c3 then [(.cpu3, .nmi)] else []
    engines := s.engines.set .cpu3 (servedEngine s .cpu3) } := by
  obtain ⟨_, _, _, _, _, ⟨_, _, i3⟩⟩ := s
  cases i3
  · simp [served, servedEngine, PerCpu.set]
  · simp [served, servedEngine, released, serviceInjection] <;> rfl

/-- The service completes when the CPUs it interrupts accept without a transaction (R176 to R181). -/
theorem vblank_quiet {s : State}
    (h : ∀ c, s.ie.get c = true → ∃ k d rest, (s.engines.get c).accepts = quiet k d :: rest) :
    vblank s = .done () ((served (served (served (videoPath s) .cpu1) .cpu2) .cpu3).setCsi 0) := by
  have h1 : serviceCpu1 (videoPath s) = .done () (served (videoPath s) .cpu1) :=
    serviceOf_quiet (c := .cpu1) (by simpa using h .cpu1)
  have h2 : serviceCpu2 (served (videoPath s) .cpu1) = .done () (served (served (videoPath s) .cpu1) .cpu2) :=
    serviceOf_quiet (c := .cpu2) (by simpa [served_cpu1] using h .cpu2)
  have h3 : serviceCpu3 (served (served (videoPath s) .cpu1) .cpu2) = .done () _ :=
    serviceOf_quiet (c := .cpu3) (by simpa [served_cpu2, served_cpu1] using h .cpu3)
  rw [vblank, h1, Ran.bind_done, h2, Ran.bind_done, h3, Ran.bind_done]

/-- Settles O50: each service changes its CPU's cells and engine alone. -/
theorem vblankServiceServesTheThreeCpus : Obligations.VblankServiceServesTheThreeCpus := by
  unfold Obligations.VblankServiceServesTheThreeCpus
  intro s hs h
  refine ⟨composedFrame s, ⟨servedEngine s .cpu1, servedEngine s .cpu2, servedEngine s .cpu3⟩, exec_composeFrame hs,
    ?_, fun c hc => ?_⟩
  · rw [exec_vblankService hs, vblank_quiet h, served_cpu3, served_cpu2, served_cpu1, videoPath_eq]
    generalize composedFrame s = f
    rfl
  · have skipped : servedEngine s c = s.engines.get c := by rw [servedEngine, hc]; rfl
    rw [← skipped]
    cases c <;> rfl

/-! ### The steps before the check -/

theorem EngineFrame.refl (c : Cpu) (s : State) : EngineFrame c s s :=
  ⟨rfl, rfl, rfl, rfl, rfl, rfl, rfl, rfl, fun _ _ => rfl⟩

theorem stepUnlessHalted_frame (c : Cpu) (s : State) : EngineFrame c s (stepUnlessHalted c s).state := by
  cases h : s.halted c with
  | true => rw [stepUnlessHalted_halted h]; exact .refl c s
  | false => rw [stepUnlessHalted_running h, Ran.state_map]; exact stepEngine_frame c s

section

variable {c : Cpu} {s t : State} {k : Nat}

theorem stepEngine_done (h : stepEngine c s = .done k t) : EngineFrame c s t := by
  have f := stepEngine_frame c s
  rwa [h] at f

theorem stepEngine_raised (h : stepEngine c s = .raised t) : EngineFrame c s t := by
  have f := stepEngine_frame c s
  rwa [h] at f

theorem stepUnlessHalted_done (h : stepUnlessHalted c s = .done () t) : EngineFrame c s t := by
  have f := stepUnlessHalted_frame c s
  rwa [h] at f

end

/-- What the steps of an iteration keep until its check: the count and the streams that the service feeds. -/
structure StreamsKept (s t : State) : Prop where
  csi : t.csi = s.csi
  irqOut : t.irqOut = s.irqOut
  frameOut : t.frameOut = s.frameOut

theorem StreamsKept.trans {s t u : State} (h : StreamsKept s t) (k : StreamsKept t u) : StreamsKept s u :=
  ⟨k.csi.trans h.csi, k.irqOut.trans h.irqOut, k.frameOut.trans h.frameOut⟩

theorem EngineFrame.streams {c : Cpu} {s t : State} (h : EngineFrame c s t) : StreamsKept s t :=
  ⟨h.csi, h.irqOut, h.frameOut⟩

/-- Settles O52: the steps keep the streams, and the check counts or runs the service once. -/
theorem atMostOneServicePerIteration : Obligations.AtMostOneServicePerIteration := by
  unfold Obligations.AtMostOneServicePerIteration
  intro s t h ht
  obtain ⟨x, hx, rfl⟩ := iterate_done_of_exec h ht
  have bound : x.csi < 51200 := iterate_csi hx
  refine ⟨bound, ?_⟩
  obtain ⟨n, t, u, w, h1, h2, h3, check⟩ := iterate_eq_done hx
  have kept := (stepEngine_done h1).streams.trans
    ((stepUnlessHalted_done h2).streams.trans (stepUnlessHalted_done h3).streams)
  by_cases below : w.csi + n < 51200
  · rw [checkVblank_below below] at check
    cases check
    refine .inl ⟨kept.frameOut, kept.irqOut, ?_⟩
    exact kept.csi ▸ Nat.le_add_right w.csi n
  · rw [checkVblank_due (not_lt.1 below)] at check
    have csi : x.csi = 0 := vblank_csi check
    exact .inr ⟨csi, _, (vblank_done_frame check).2.trans (congrArg (· ++ _) kept.frameOut)⟩

end Sys2Proof.Machine

/-!
# Faults in the loop

A result that is raised ends what encloses it (`Ran.bind`), so an iteration and a service end in the state of the part
that faulted. The parts before it were done, and the frames of the steps and of the services say what they kept.
-/
namespace Sys2Proof.Machine

open Sys2Proof.Spec

section

variable {s u : State} (hs : Ready s)

include hs

/-- A fault in an iteration ends it: the state is the one that the fault left (R174, R195). -/
theorem exec_loopIter_raised (h : iterate s = .raised u) : exec .loopIter s = .next (silent u) ∧ u.fault ≠ none :=
  ⟨by rw [exec_loopIter hs, h, Ran.state_raised], (iterate_run s).raised u h⟩

/-- A fault in the service ends it (R195, log entry 21). -/
theorem exec_vblankService_raised (h : vblank s = .raised u) :
    exec .vblankService s = .next (silent u) ∧ u.fault ≠ none :=
  ⟨by rw [exec_vblankService hs, h, Ran.state_raised], (vblank_run s).raised u h⟩

end

/-- A result that is raised comes from its first part or from what follows it. -/
theorem Ran.bind_eq_raised_iff {α : Type} {r : Ran Unit} {f : Unit → State → Ran α} {t : State} :
    r.bind f = .raised t ↔ r = .raised t ∨ ∃ u, r = .done () u ∧ f () u = .raised t := by
  cases r <;> simp

/-- The three places where a fault ends the service, each after the parts before it were done. -/
theorem vblank_eq_raised_iff {s u : State} : vblank s = .raised u ↔
    serviceOf .cpu1 (videoPath s) = .raised u ∨
    (∃ t, serviceOf .cpu1 (videoPath s) = .done () t ∧ serviceOf .cpu2 t = .raised u) ∨
    ∃ t w, serviceOf .cpu1 (videoPath s) = .done () t ∧ serviceOf .cpu2 t = .done () w ∧
      serviceOf .cpu3 w = .raised u := by
  simp only [vblank, serviceOf, Ran.bind_eq_raised_iff, reduceCtorEq, and_false, exists_false, or_false,
    and_or_left, exists_or, exists_and_left]

/-- A service that a fault cuts short has not zeroed the count, and the frame it handed over stands (log entry 21). -/
theorem vblank_raised_frame {s u : State} (h : vblank s = .raised u) :
    u.csi = s.csi ∧ u.frameOut = s.frameOut ++ [u.frame] := by
  have kept : FramesKept (videoPath s) u := by
    rcases vblank_eq_raised_iff.1 h with h1 | ⟨t, h1, h2⟩ | ⟨t, w, h1, h2, h3⟩
    · exact (serviceOf_raised h1).1.toFramesKept
    · exact (serviceOf_done h1).toFramesKept.trans (serviceOf_raised h2).1.toFramesKept
    · exact (serviceOf_done h1).toFramesKept.trans
        ((serviceOf_done h2).toFramesKept.trans (serviceOf_raised h3).1.toFramesKept)
  obtain ⟨csi, _, frameOut⟩ := kept.of_videoPath
  exact ⟨csi, frameOut⟩

/-- A check that a fault cuts short has added CPU1's cycles: only the service can fault (R175). -/
theorem checkVblank_raised_csi {n : Nat} {s u : State} (h : checkVblank n s = .raised u) : u.csi = s.csi + n := by
  by_cases below : s.csi + n < 51200
  · rw [checkVblank_below below] at h
    cases h
  · rw [checkVblank_due (not_lt.1 below)] at h
    exact (vblank_raised_frame h).1

section

variable {s t u w x : State} {k : Nat} (hs : Ready s)

include hs

/-- A fault in a step: no later step, no count, no service. -/
theorem fault_of_cpu1_step (h1 : stepEngine .cpu1 s = .raised u) :
    exec .loopIter s = .next (silent u) ∧ u.fault ≠ none ∧ u.csi = s.csi ∧ u.irqOut = s.irqOut ∧
    u.frameOut = s.frameOut ∧ u.engines.c2 = s.engines.c2 ∧ u.engines.c3 = s.engines.c3 := by
  have ends : iterate s = .raised u := by rw [iterate, h1, Ran.bind_raised]
  obtain ⟨next, fault⟩ := exec_loopIter_raised hs ends
  have f := stepEngine_raised h1
  exact ⟨next, fault, f.csi, f.irqOut, f.frameOut, f.others .cpu2 (by decide), f.others .cpu3 (by decide)⟩

theorem fault_of_cpu2_step (h1 : stepEngine .cpu1 s = .done k t) (running : t.halt2 = false)
    (h2 : stepEngine .cpu2 t = .raised u) :
    exec .loopIter s = .next (silent u) ∧ u.fault ≠ none ∧ u.csi = s.csi ∧ u.irqOut = s.irqOut ∧
    u.frameOut = s.frameOut ∧ u.engines.c3 = s.engines.c3 := by
  have ends : iterate s = .raised u := by
    rw [iterate, h1, Ran.bind_done, stepUnlessHalted_running (c := .cpu2) running, h2, Ran.map_raised, Ran.bind_raised]
  obtain ⟨next, fault⟩ := exec_loopIter_raised hs ends
  have f1 := stepEngine_done h1
  have f2 := stepEngine_raised h2
  obtain ⟨csi, irqOut, frameOut⟩ := f1.streams.trans f2.streams
  exact ⟨next, fault, csi, irqOut, frameOut, (f2.others .cpu3 (by decide)).trans (f1.others .cpu3 (by decide))⟩

theorem fault_of_cpu3_step (h1 : stepEngine .cpu1 s = .done k t) (h2 : stepUnlessHalted .cpu2 t = .done () w)
    (running : w.halt3 = false) (h3 : stepEngine .cpu3 w = .raised u) :
    exec .loopIter s = .next (silent u) ∧ u.fault ≠ none ∧ u.csi = s.csi ∧ u.irqOut = s.irqOut ∧
    u.frameOut = s.frameOut := by
  have ends : iterate s = .raised u := by
    rw [iterate, h1, Ran.bind_done, h2, Ran.bind_done, stepUnlessHalted_running (c := .cpu3) running, h3,
      Ran.map_raised, Ran.bind_raised]
  obtain ⟨next, fault⟩ := exec_loopIter_raised hs ends
  obtain ⟨csi, irqOut, frameOut⟩ := (stepEngine_done h1).streams.trans
    ((stepUnlessHalted_done h2).streams.trans (stepEngine_raised h3).streams)
  exact ⟨next, fault, csi, irqOut, frameOut⟩

theorem fault_of_check (h1 : stepEngine .cpu1 s = .done k t) (h2 : stepUnlessHalted .cpu2 t = .done () w)
    (h3 : stepUnlessHalted .cpu3 w = .done () x) (check : checkVblank k x = .raised u) :
    exec .loopIter s = .next (silent u) ∧ u.fault ≠ none ∧ u.csi = s.csi + k := by
  obtain ⟨next, fault⟩ := exec_loopIter_raised hs ((iterate_eq_checkVblank h1 h2 h3).trans check)
  have kept := (stepEngine_done h1).streams.trans
    ((stepUnlessHalted_done h2).streams.trans (stepUnlessHalted_done h3).streams)
  exact ⟨next, fault, by rw [checkVblank_raised_csi check, kept.csi]⟩

/-- A fault in the service: the frame stands and the count is not zeroed. -/
theorem fault_of_service (h : vblank s = .raised u) :
    exec .vblankService s = .next (silent u) ∧ u.fault ≠ none ∧ u.csi = s.csi ∧
    u.frameOut = s.frameOut ++ [u.frame] :=
  ⟨(exec_vblankService_raised hs h).1, (exec_vblankService_raised hs h).2, vblank_raised_frame h⟩

end

/-- Settles O54: the places of an iteration and of a service where an engine can fault, in order. -/
theorem faultEndsTheIteration : Obligations.FaultEndsTheIteration := by
  unfold Obligations.FaultEndsTheIteration
  intro s u hs
  refine ⟨fault_of_cpu1_step hs, fun _ _ => fault_of_cpu2_step hs, fun _ _ _ => fault_of_cpu3_step hs,
    fun _ _ _ _ => fault_of_check hs, fun h1 => ?_, fun t h1 h2 => ?_, fun t w h1 h2 h3 => ?_⟩
  · obtain ⟨next, fault, csi, frameOut⟩ := fault_of_service hs (vblank_eq_raised_iff.2 (.inl h1))
    obtain ⟨kept, irqOut⟩ := serviceOf_raised (c := .cpu1) h1
    have others (d : Cpu) (hd : d ≠ .cpu1) : u.engines.get d = s.engines.get d := by
      rw [kept.others d hd, videoPath_engines]
    rw [videoPath_irqOut, serviceInjection, videoPath_port0] at irqOut
    exact ⟨next, fault, csi, frameOut, irqOut, others .cpu2 (by decide), others .cpu3 (by decide)⟩
  · obtain ⟨next, fault, csi, frameOut⟩ := fault_of_service hs (vblank_eq_raised_iff.2 (.inr (.inl ⟨t, h1, h2⟩)))
    have kept1 := serviceOf_done (c := .cpu1) h1
    obtain ⟨kept2, irqOut⟩ := serviceOf_raised (c := .cpu2) h2
    have engine : u.engines.get .cpu3 = s.engines.get .cpu3 := by
      rw [kept2.others .cpu3 (by decide), kept1.others .cpu3 (by decide), videoPath_engines]
    exact ⟨next, fault, csi, frameOut, irqOut, engine⟩
  · obtain ⟨next, fault, csi, frameOut⟩ :=
      fault_of_service hs (vblank_eq_raised_iff.2 (.inr (.inr ⟨t, w, h1, h2, h3⟩)))
    exact ⟨next, fault, csi, frameOut, (serviceOf_raised (c := .cpu3) h3).2⟩

end Sys2Proof.Machine

/-!
# The VBLANK period

A machine in which CPU1 alone runs, with quiet steps of `k` cycles and no enable set (`Paced`), stays so through an
iteration, which adds `k` to the count or hands over a frame and restarts it (`Paced.step`). After `n` iterations the
count is `n % p * k` and `n / p` frames were handed over, where `p` is the least number of steps that reaches the
threshold (R183).
-/
namespace Sys2Proof.Machine

open Sys2Proof.Spec

/-- A property that each of `m` steps keeps, with the number of steps made, holds after a run of `m` steps. -/
theorem runFor_of_steps {P : Nat → State → Prop} {m : Nat} {s : State} (h0 : P 0 s)
    (next : ∀ n t, n < m → P n t → ∃ u, step t = .next u ∧ P (n + 1) u) : ∃ t, runFor m s = .next t ∧ P m t := by
  induction m generalizing s P with
  | zero => exact ⟨s, rfl, h0⟩
  | succ m ih =>
    obtain ⟨t, ht, h1⟩ := next 0 s (Nat.succ_pos m) h0
    obtain ⟨u, hu, hm⟩ := ih (P := fun n => P (n + 1)) h1 fun n t hn => next (n + 1) t (Nat.succ_lt_succ hn)
    exact ⟨u, by rw [runFor, ht]; exact hu, hm⟩

/-- CPU1 alone runs, its next `n` steps have `k` cycles and no transaction, and no enable is set. -/
structure Paced (k d n : Nat) (s : State) : Prop where
  ready : Ready s
  requests : s.requests = []
  halt2 : s.halt2 = true
  halt3 : s.halt3 = true
  ie : s.ie = ⟨false, false, false⟩
  steps : s.engines.c1.steps = List.replicate n (quiet k d)

/-- What one iteration of such a machine does to the count and to the frames. -/
structure Ticked (k : Nat) (s t : State) : Prop where
  irqOut : t.irqOut = s.irqOut
  mem : t.mem = s.mem
  below : s.csi + k < 51200 → t.csi = s.csi + k ∧ t.frameOut = s.frameOut
  due : 51200 ≤ s.csi + k → t.csi = 0 ∧ ∃ f, t.frameOut = s.frameOut ++ [f]

/-- The check of such a machine: no enable asks for a service of a CPU (R175, R177). -/
theorem Paced.check {k d n : Nat} {s : State} (h : Paced k d n s) :
    ∃ t, checkVblank k s = .done () t ∧ Paced k d n t ∧ Ticked k s t := by
  by_cases below : s.csi + k < 51200
  · exact ⟨_, checkVblank_below below, { h with },
      { irqOut := rfl, mem := rfl, below := fun _ => ⟨rfl, rfl⟩, due := fun due => absurd below (not_lt.2 due) }⟩
  · have off (c : Cpu) : s.ie.get c = false := by rw [h.ie]; cases c <;> rfl
    have service := vblank_disabled (s := s.setCsi (s.csi + k)) (off .cpu1) (off .cpu2) (off .cpu3)
    rw [videoPath_eq] at service
    refine ⟨_, (checkVblank_due (not_lt.1 below)).trans service, ?_⟩
    generalize composedFrame _ = f
    exact ⟨{ h with },
      { irqOut := rfl, mem := rfl, below := fun lt => absurd lt below, due := fun _ => ⟨rfl, f, rfl⟩ }⟩

/-- One step of such a machine is an iteration in which CPU1 alone steps (R174). -/
theorem Paced.step {k d n : Nat} {s : State} (h : Paced k d (n + 1) s) :
    ∃ t, Machine.step s = .next t ∧ Paced k d n t ∧ Ticked k s t := by
  have first := stepEngine_quiet (c := .cpu1) (e := s.engines.c1) rfl (h.steps.trans List.replicate_succ)
  have after : Paced k d n (s.setEngine .cpu1
      (afterTurn s.engines.c1 (quiet k d) (List.replicate n (quiet k d)))) := { h with steps := rfl }
  obtain ⟨t, check, paced, ticked⟩ := after.check
  have steps := iterate_eq_checkVblank first (stepUnlessHalted_halted (c := .cpu2) after.halt2)
    (stepUnlessHalted_halted (c := .cpu3) after.halt3)
  refine ⟨silent t, ?_, { paced with }, { ticked with }⟩
  rw [Machine.step, h.requests]
  exact (exec_loopIter h.ready).trans (by rw [steps, check, Ran.state_done])

/-! ### Periods -/

/-- The iterations from one service to the next, `ceil(51200 / k)` (R183). -/
def period (k : Nat) : Nat := (51200 + k - 1) / k

/-- The count is below the threshold until a period has gone by. -/
theorem lt_period_iff {k n : Nat} (hk : 1 ≤ k) : n < period k ↔ n * k < 51200 := by
  rw [period, Nat.lt_iff_add_one_le, Nat.le_div_iff_mul_le hk, Nat.add_mul]
  omega

/-- One more iteration within a period. -/
theorem div_mod_succ_of_lt {n p : Nat} (h : n % p + 1 < p) : (n + 1) / p = n / p ∧ (n + 1) % p = n % p + 1 := by
  have split := Nat.div_add_mod n p
  exact (Nat.div_mod_unique (by omega)).2 ⟨by omega, h⟩

/-- The last iteration of a period. -/
theorem div_mod_succ_of_eq {n p : Nat} (h : n % p + 1 = p) : (n + 1) / p = n / p + 1 ∧ (n + 1) % p = 0 := by
  have split := Nat.div_add_mod n p
  refine (Nat.div_mod_unique (by omega)).2 ⟨?_, by omega⟩
  rw [Nat.mul_add]
  omega

/-- What the machine `s` has become after `n` of its `m` iterations. -/
structure Elapsed (k d m : Nat) (s : State) (n : Nat) (t : State) : Prop where
  paced : Paced k d (m - n) t
  irqOut : t.irqOut = s.irqOut
  mem : t.mem = s.mem
  counted : 1 ≤ k → t.frameOut.length = s.frameOut.length + n / period k ∧ t.csi = n % period k * k
  idle : k = 0 → t.frameOut = s.frameOut ∧ t.csi = 0

/-- An iteration counts within the period, or ends it with a frame. -/
theorem counted_of_ticked {k l n : Nat} {t u : State} (hk : 1 ≤ k) (h : Ticked k t u)
    (length : t.frameOut.length = l + n / period k) (csi : t.csi = n % period k * k) :
    u.frameOut.length = l + (n + 1) / period k ∧ u.csi = (n + 1) % period k * k := by
  have count : t.csi + k = (n % period k + 1) * k := by rw [csi, Nat.add_mul, Nat.one_mul]
  by_cases within : n % period k + 1 < period k
  · obtain ⟨div, mod⟩ := div_mod_succ_of_lt within
    obtain ⟨csi', same⟩ := h.below (count ▸ (lt_period_iff hk).1 within)
    exact ⟨by rw [same, length, div], by rw [csi', count, mod]⟩
  · have positive : 0 < period k := (lt_period_iff hk).2 (by omega)
    have last : n % period k + 1 = period k := by
      have := Nat.mod_lt n positive
      omega
    obtain ⟨div, mod⟩ := div_mod_succ_of_eq last
    obtain ⟨csi', f, more⟩ := h.due (count ▸ not_lt.1 (mt (lt_period_iff hk).2 within))
    exact ⟨by rw [more, List.length_append, length, div]; rfl, by rw [csi', mod, Nat.zero_mul]⟩

theorem Elapsed.next {k d m n : Nat} {s t : State} (hn : n < m) (h : Elapsed k d m s n t) :
    ∃ u, Machine.step t = .next u ∧ Elapsed k d m s (n + 1) u := by
  have left : m - n = m - (n + 1) + 1 := by omega
  obtain ⟨u, step, paced, ticked⟩ := (left ▸ h.paced).step
  refine ⟨u, step, paced, ticked.irqOut.trans h.irqOut, ticked.mem.trans h.mem, fun hk => ?_, fun hk => ?_⟩
  · obtain ⟨length, csi⟩ := h.counted hk
    exact counted_of_ticked hk ticked length csi
  · obtain ⟨frames, csi⟩ := h.idle hk
    obtain ⟨csi', same⟩ := ticked.below (by omega)
    exact ⟨same.trans frames, by omega⟩

/-- Settles O53, by the induction of `runFor_of_steps` on the iterations. -/
theorem vblankPeriod : Obligations.VblankPeriod := by
  unfold Obligations.VblankPeriod
  intro s k d m hs requests csi halt2 halt3 ie steps
  have start : Elapsed k d m s 0 s :=
    { paced := ⟨hs, requests, halt2, halt3, ie, steps⟩
      irqOut := rfl
      mem := rfl
      counted := fun _ => ⟨by rw [Nat.zero_div, Nat.add_zero], by rw [csi, Nat.zero_mod, Nat.zero_mul]⟩
      idle := fun _ => ⟨rfl, csi⟩ }
  obtain ⟨t, run, elapsed⟩ := runFor_of_steps start fun n t hn h => h.next hn
  exact ⟨t, run, elapsed.counted, elapsed.idle, elapsed.irqOut, elapsed.paced.ready, elapsed.mem⟩

end Sys2Proof.Machine

/-!
# Decoding and encoding

The request of a byte access is decoded as the operation of its class (`decodeRead_of_range`, `decodeWrite_of_range`), so
an operation whose address lies in its own class is read back. The calls read their operands back. In the other
direction, all that the decoder answers is listed once (`decode_eq_ok`), and each of the answers is an operation.
-/
namespace Sys2Proof

open Sys2Proof.Machine Sys2Proof.Spec

/-! ### Byte accesses -/

/-- The operation of each class of byte reads (R76). -/
def readOperation (c : Cpu) (a : Addr) : ReadClass → Instr
  | .rom1 => .rom1Rd a
  | .rom2 => .rom2Rd a
  | .rom2Hole => .rom2RdHole a
  | .rom3 => .rom3Rd a
  | .rom3Hole => .rom3RdHole a
  | .dip => .dipRd c a
  | .ram => .ramRd c a
  | .n06 => .n06Rd c a
  | .unmapped => .unmappedRd c a

/-- The operation of each class of byte writes (R76). -/
def writeOperation (c : Cpu) (a : Addr) (v : Byte) : WriteClass → Instr
  | .rom => .romWr c a v
  | .romHole => .romWrHole c a v
  | .irq1 => .irq1Wr c v
  | .irq2 => .irq2Wr c v
  | .nmi3 => .nmi3Wr c v
  | .halt => .haltWr c v
  | .latchUnimpl => .latchUnimplWr c a v
  | .ram => .ramWr c a v
  | .snd => .sndWr c a v
  | .n06 => .n06Wr c a v
  | .star => .starWr c a v
  | .flip => .flipWr c v
  | .wdog => .wdogWr c v
  | .unmapped => .unmappedWr c a v

theorem decodeRead_of_range {c : Cpu} {a : Addr} {k : ReadClass} (h : readRange c a k) :
    decodeRead c a = readOperation c a k := by
  rw [decodeRead, readClass_iff.2 h]
  cases k <;> rfl

theorem decodeWrite_of_range {c : Cpu} {a : Addr} {k : WriteClass} (v : Byte) (h : writeRange c a k) :
    decodeWrite c a v = writeOperation c a v k := by
  rw [decodeWrite, writeClass_iff.2 h]
  cases k <;> rfl

theorem decode_encodeRead (c : Cpu) (a : Addr) : decode (encodeRead c a) = .ok (decodeRead c a) := by
  rw [encodeRead, ← readKey_toNat, decode_readKey]

theorem decode_encodeWrite (c : Cpu) (a : Addr) (v : Byte) :
    decode (encodeWrite c a v) = .ok (decodeWrite c a v) := by
  rw [encodeWrite, ← writeKey_toNat, decode_writeKey]

/-- The request of a byte read at an address of class `k` is read back as the operation of that class. -/
theorem decode_encodeRead_of_range {c : Cpu} {a : Addr} (k : ReadClass) (h : readRange c a k) :
    decode (encodeRead c a) = .ok (readOperation c a k) :=
  (decode_encodeRead c a).trans (congrArg Except.ok (decodeRead_of_range h))

/-- The request of a byte write at an address of class `k` is read back as the operation of that class. -/
theorem decode_encodeWrite_of_range {c : Cpu} {a : Addr} {v : Byte} (k : WriteClass) (h : writeRange c a k) :
    decode (encodeWrite c a v) = .ok (writeOperation c a v k) :=
  (decode_encodeWrite c a v).trans (congrArg Except.ok (decodeWrite_of_range v h))

/-! ### Calls -/

theorem decodeCall_read16 (c : Cpu) (a : Addr) :
    decodeCall .read16 [cpuCode c, a.toNat] = .ok (.read16 c a) := by
  simp [decodeCall, cpuOfCode_cpuCode, a.isLt]

theorem decodeCall_write16 (c : Cpu) (a : Addr) (v : Half) :
    decodeCall .write16 [cpuCode c, a.toNat, v.toNat] = .ok (.write16 c a v) := by
  simp [decodeCall, cpuOfCode_cpuCode, a.isLt, v.isLt]

theorem decodeCall_decodeColor (b : Byte) : decodeCall .decodeColor [b.toNat] = .ok (.decodeColor b) := by
  simp [decodeCall, b.isLt]

theorem decodeCall_buildColors (prom : Vector Byte 32) :
    decodeCall .buildColors (operandsOfBytes prom) = .ok (.buildColors prom) := by
  simp only [decodeCall, bytesOfOperands_operandsOfBytes]

/-- The lookup PROM is the first 256 operands and the colours are the rest. -/
theorem decodeCall_buildPalettes (lookup : Vector Byte 256) (colors : ColorTable) :
    decodeCall .buildPalettes (operandsOfBytes lookup ++ operandsOfColors colors) =
      .ok (.buildPalettes lookup colors) := by
  have length : (operandsOfBytes lookup).length = 256 := operandsOfBytes_length lookup
  simp only [decodeCall, List.take_left' length, List.drop_left' length, bytesOfOperands_operandsOfBytes,
    colorsOfOperands_operandsOfColors]

theorem decodeCall_renderTile (t : Byte) (p : BitVec 6) :
    decodeCall .renderTile [t.toNat, p.toNat] = .ok (.renderTile t p) := by
  simp [decodeCall, t.isLt, p.isLt]

/-! ### The round trip -/

/-- Settles O1: the request of each operation selects the operation's own class, or calls it by name. -/
theorem decodeOfEncodeIsTheOperation : Obligations.DecodeOfEncodeIsTheOperation := by
  unfold Obligations.DecodeOfEncodeIsTheOperation
  intro i wf
  cases i
  -- byte reads
  case rom1Rd a => exact decode_encodeRead_of_range .rom1 ⟨rfl, Nat.le_of_lt_succ (inRomArray_lt (c := .cpu1) wf)⟩
  case rom2Rd a => exact decode_encodeRead_of_range .rom2 ⟨rfl, Nat.le_of_lt_succ (inRomArray_lt (c := .cpu2) wf)⟩
  case rom2RdHole a => exact decode_encodeRead_of_range .rom2Hole ⟨rfl, inRange_iff.1 wf⟩
  case rom3Rd a => exact decode_encodeRead_of_range .rom3 ⟨rfl, Nat.le_of_lt_succ (inRomArray_lt (c := .cpu3) wf)⟩
  case rom3RdHole a => exact decode_encodeRead_of_range .rom3Hole ⟨rfl, inRange_iff.1 wf⟩
  case dipRd c a => exact decode_encodeRead_of_range .dip (inRange_iff.1 wf)
  case n06Rd c a => exact decode_encodeRead_of_range .n06 (inRange_iff.1 wf)
  case ramRd c a => exact decode_encodeRead_of_range .ram wf
  case unmappedRd c a => exact decode_encodeRead_of_range .unmapped wf
  -- byte writes
  case romWr c a v => exact decode_encodeWrite_of_range .rom wf
  case romWrHole c a v => exact decode_encodeWrite_of_range .romHole wf
  case sndWr c a v => exact decode_encodeWrite_of_range .snd (inRange_iff.1 wf)
  case irq1Wr c v => exact decode_encodeWrite_of_range .irq1 rfl
  case irq2Wr c v => exact decode_encodeWrite_of_range .irq2 rfl
  case nmi3Wr c v => exact decode_encodeWrite_of_range .nmi3 rfl
  case haltWr c v => exact decode_encodeWrite_of_range .halt rfl
  case latchUnimplWr c a v => exact decode_encodeWrite_of_range .latchUnimpl (inRange_iff.1 wf)
  case wdogWr c v => exact decode_encodeWrite_of_range .wdog rfl
  case n06Wr c a v => exact decode_encodeWrite_of_range .n06 (inRange_iff.1 wf)
  case starWr c a v => exact decode_encodeWrite_of_range .star (inRange_iff.1 wf)
  case flipWr c v => exact decode_encodeWrite_of_range .flip rfl
  case ramWr c a v => exact decode_encodeWrite_of_range .ram wf
  case unmappedWr c a v => exact decode_encodeWrite_of_range .unmapped wf
  -- ports
  case port0Wr v => exact decode_portKey_write .cpu1 0x00 v
  case portWrOther c p v =>
    have other : ¬(c = .cpu1 ∧ p = 0x00) := by simpa [Instr.wf, imp_iff_not_or] using wf
    exact (decode_portKey_write c p v).trans (congrArg Except.ok (decodePortWrite_other v other))
  case portRd c p => exact decode_portKey_read c p
  -- calls
  case read16 c a => exact decodeCall_read16 c a
  case write16 c a v => exact decodeCall_write16 c a v
  case decodeColor b => exact decodeCall_decodeColor b
  case buildColors prom => exact decodeCall_buildColors prom
  case buildPalettes lookup colors => exact decodeCall_buildPalettes lookup colors
  case renderTile t p => exact decodeCall_renderTile t p
  case composeFrame | loopIter | handleInterrupts | vblankService | reset => rfl

/-- Settles O5: each key is the encoder's for the operation it stands for. -/
theorem writtenKeysDecode : Obligations.WrittenKeysDecode := by
  unfold Obligations.WrittenKeysDecode
  have key := decodeOfEncodeIsTheOperation
  exact ⟨key (.rom1Rd 0x0000) rfl, key (.rom2Rd 0x0FFF) rfl, key (.ramRd .cpu3 0x8000) rfl,
    key (.haltWr .cpu1 0x01) rfl, key (.irq2Wr .cpu2 0x01) rfl, key (.unmappedWr .cpu3 0xFFFF 0x5A) rfl,
    key (.port0Wr 0x34) rfl, key (.portWrOther .cpu3 0xFF 0x77) rfl, key (.portRd .cpu2 0x00) rfl⟩

/-! ### What the decoder answers -/

/-- A checked call that is answered passed its check. -/
theorem eq_of_ite_ok {p : Prop} [Decidable p] {i j : Instr} {e : DecodeError}
    (h : (if p then Except.ok j else .error e) = .ok i) : j = i := by
  split at h
  · exact Except.ok.inj h
  · cases h

/-- No operation that is called by name has a class that its operands could lie outside of (R72, R74). -/
theorem wf_of_decodeCall {name : CallName} {l : List Nat} {i : Instr} (h : decodeCall name l = .ok i) :
    i.wf = true := by
  unfold decodeCall at h
  cases name <;> dsimp only at h
  case composeFrame | loopIter | vblankService | reset =>
    obtain rfl := eq_of_ite_ok h
    rfl
  case read16 | write16 =>
    split at h
    · split at h
      · obtain rfl := eq_of_ite_ok h
        rfl
      · cases h
    · cases h
  case decodeColor | renderTile =>
    split at h
    · obtain rfl := eq_of_ite_ok h
      rfl
    · cases h
  case buildColors | buildPalettes | handleInterrupts =>
    split at h
    · obtain rfl := Except.ok.inj h
      rfl
    · cases h

/-- All that the decoder can answer: a byte access, a port access or a call (R71, R73, R74). -/
theorem decode_eq_ok {r : Request} {i : Instr} (h : decode r = .ok i) :
    (∃ c a, i = decodeRead c a) ∨ (∃ c a v, i = decodeWrite c a v) ∨ (∃ c p, i = .portRd c p) ∨
    (∃ c p v, i = decodePortWrite c p v) ∨ ∃ name l, decodeCall name l = .ok i := by
  unfold decode at h
  cases r with
  | bus8 key data =>
    dsimp only at h
    split at h
    case isFalse => cases h
    split at h
    · cases h
    · split at h <;> cases h
      · exact .inl ⟨_, _, rfl⟩
      · exact .inr (.inl ⟨_, _, _, rfl⟩)
  | port key data =>
    dsimp only at h
    split at h
    case isFalse => cases h
    split at h
    · cases h
    · split at h <;> cases h
      · exact .inr (.inr (.inl ⟨_, _, rfl⟩))
      · exact .inr (.inr (.inr (.inl ⟨_, _, _, rfl⟩)))
  | call name l => exact .inr (.inr (.inr (.inr ⟨name, l, h⟩)))

theorem wf_decodePortWrite (c : Cpu) (p v : Byte) : (decodePortWrite c p v).wf = true := by
  by_cases latch : c = .cpu1 ∧ p = 0x00
  · rw [decodePortWrite, if_pos latch]
    rfl
  · rw [decodePortWrite_other v latch]
    exact wf_portWrOther v latch

/-- Settles O2: each of the decoder's answers lies in its class. -/
theorem decoderAnswersOnlyOperations : Obligations.DecoderAnswersOnlyOperations := by
  unfold Obligations.DecoderAnswersOnlyOperations
  intro r i h
  rcases decode_eq_ok h with ⟨c, a, rfl⟩ | ⟨c, a, v, rfl⟩ | ⟨c, p, rfl⟩ | ⟨c, p, v, rfl⟩ | ⟨name, l, call⟩
  · exact wf_decodeRead c a
  · exact wf_decodeWrite c a v
  · rfl
  · exact wf_decodePortWrite c p v
  · exact wf_of_decodeCall call

end Sys2Proof

/-!
# Steps and operations

A step is one operation (O6), and every operation but `reset()` runs in the frame of `issue` (`exec_eq_issue`), which
lets none run once a fault is recorded (O7). The body that it runs is, for a byte access, the access that an engine
makes (O22), and whatever it does it only adds to the streams (O36).
-/
namespace Sys2Proof.Machine

open Sys2Proof.Spec

theorem step_of_request {s : State} {r : Request} {rest : List Request} {i : Instr} (hr : s.requests = r :: rest)
    (hi : decode r = .ok i) : step s = exec i (s.setRequests rest) := by
  simp only [step, hr, hi]

theorem step_of_no_request {s : State} (h : s.requests = []) : step s = exec .loopIter s := by
  simp only [step, h]

/-- Settles O6: the two branches of the step. -/
theorem stepRunsTheDecodedOperation : Obligations.StepRunsTheDecodedOperation := by
  unfold Obligations.StepRunsTheDecodedOperation
  exact ⟨fun _ _ _ _ => step_of_request, fun _ => step_of_no_request⟩

/-- Every operation but `reset()` runs a body in the frame of `issue` (R19, R195). -/
theorem exec_eq_issue {i : Instr} (hi : i ≠ .reset) : ∃ body, ∀ s, exec i s = issue i s body := by
  cases i
  case reset => exact absurd rfl hi
  all_goals exact ⟨_, fun _ => rfl⟩

/-- No operation but `reset()` runs once a fault is recorded (R19, R195, R196). -/
theorem exec_stopped {i : Instr} {s : State} {k : FaultKind} (h : s.fault = some k) (hi : i ≠ .reset) :
    exec i s = .fault (.stopped k) := by
  obtain ⟨body, run⟩ := exec_eq_issue hi
  rw [run, issue_stopped body h]

/-- Settles O7: the frame of the operations stops them, and a step without a request is `loop_iter`. -/
theorem noOperationRunsAfterAFault : Obligations.NoOperationRunsAfterAFault := by
  unfold Obligations.NoOperationRunsAfterAFault
  intro s k h
  exact ⟨fun i => exec_stopped h, fun idle => (step_of_no_request idle).trans (exec_stopped h Instr.noConfusion)⟩

/-- Settles O22: the two accesses, each the operation of its class. -/
theorem byteAccessIsTheDecodedOperation : Obligations.ByteAccessIsTheDecodedOperation := by
  unfold Obligations.ByteAccessIsTheDecodedOperation
  exact fun s c a v hs => ⟨exec_decodeRead hs c a, exec_decodeWrite hs c a v⟩

/-- Settles O36: an operation but `reset()` is finitely many effects, and each of them only adds to the streams. -/
theorem streamsOnlyGrow : Obligations.StreamsOnlyGrow := by
  unfold Obligations.StreamsOnlyGrow
  intro i s t hi h
  obtain ⟨u, r, effects, rfl⟩ := exec_effects hi h
  have frame := effects.frame
  exact ⟨frame.diag, frame.irqOut, frame.frameOut⟩

end Sys2Proof.Machine

/-!
# 16-bit accesses of RAM

In a RAM window a byte access reads or stores the shared cell (`read8_ram`, `write8_ram`), and a 16-bit access does so
at two addresses in a row. Where the second byte is off the end of its window, the first is stored before the fault
(`writePair_off_ram`): so for `write16` (O28), and for an engine's transaction in the loop (O55).
-/
namespace Sys2Proof.Machine

open Sys2Proof.Spec

/-! ### Byte accesses -/

theorem read8_ram {a : Addr} (ha : inRamWindow a = true) (c : Cpu) (s : State) :
    read8 c a s = .done (s.mem.read a.toNat) s := by
  rw [read8, readClass_ram_iff.2 ha]
  rfl

theorem write8_ram {a : Addr} (ha : inRamWindow a = true) (c : Cpu) (v : Byte) (s : State) :
    write8 c a v s = .done () (s.setMem (s.mem.write a.toNat v)) := by
  rw [write8, writeClass_ram_iff.2 ha]
  rfl

theorem write8_unmapped {a : Addr} (ha : inUnmappedWrite a = true) (c : Cpu) (v : Byte) (s : State) :
    write8 c a v s = raise (.unmappedAddress c a .write) s := by
  rw [write8, writeClass_iff (k := .unmapped).2 ha]
  rfl

/-! ### Words -/

theorem loByte_eq_ofNat (v : Half) : loByte v = BitVec.ofNat 8 v.toNat := by
  apply BitVec.eq_of_toNat_eq
  simp [loByte]

theorem toNat_loByte (v : Half) : (loByte v).toNat = v.toNat % 256 := by
  rw [loByte_eq_ofNat, BitVec.toNat_ofNat]

theorem toNat_hiByte (v : Half) : (hiByte v).toNat = v.toNat / 256 := by
  have := v.isLt
  simp only [hiByte, BitVec.extractLsb'_toNat, Nat.shiftRight_eq_div_pow]
  omega

/-- The address after one of a RAM window does not wrap. -/
theorem toNat_add_one_of_ram {a : Addr} (ha : inRamWindow a = true) : (a + 1).toNat = a.toNat + 1 := by
  have := inRamWindow_iff.1 ha
  bv_omega

/-! ### Pairs of bytes -/

section

variable {a : Addr} (ha : inRamWindow a = true)

include ha

theorem readPair_ram (ha' : inRamWindow (a + 1) = true) (c : Cpu) (s : State) :
    readPair c a s = .done (joinBytes (s.mem.read (a.toNat + 1)) (s.mem.read a.toNat)) s := by
  rw [readPair, read8_ram ha, Ran.bind_done, nextAddr, read8_ram ha', Ran.map_done, toNat_add_one_of_ram ha]

theorem writePair_ram (ha' : inRamWindow (a + 1) = true) (c : Cpu) (v : Half) (s : State) :
    writePair c a v s =
      .done () (s.setMem ((s.mem.write a.toNat (loByte v)).write (a.toNat + 1) (hiByte v))) := by
  rw [writePair, write8_ram ha, Ran.bind_done, nextAddr, write8_ram ha', toNat_add_one_of_ram ha]
  rfl

/-- Off the end of a window the low byte is stored before the high byte's fault (R42, R125, R195). -/
theorem writePair_off_ram (off : inUnmappedWrite (a + 1) = true) (c : Cpu) (v : Half) (s : State) :
    writePair c a v s = raise (.unmappedAddress c (a + 1) .write)
      (s.setMem (s.mem.write a.toNat (BitVec.ofNat 8 v.toNat))) := by
  rw [writePair, write8_ram ha, Ran.bind_done, nextAddr, write8_unmapped off, loByte_eq_ofNat]

end

/-! ### The two operations -/

/-- Settles O25: the two bytes, joined. -/
theorem read16InRamAnswersLittleEndian : Obligations.Read16InRamAnswersLittleEndian := by
  unfold Obligations.Read16InRamAnswersLittleEndian
  intro s c a hs ha ha'
  rw [exec_read16 hs, readPair_ram ha ha', joinBytes_eq_ofNat, Ran.map_done, Ran.outcome_done]

/-- Settles O26: two stores in a row, at different addresses. -/
theorem write16InRamIsLittleEndian : Obligations.Write16InRamIsLittleEndian := by
  unfold Obligations.Write16InRamIsLittleEndian
  intro s c a v hs wf ha ha'
  have wf' := Memory.write_wf a.toNat (loByte v) wf
  refine ⟨_, by rw [exec_write16 hs, writePair_ram ha ha']; rfl, ?_, ?_, fun b lo hi => ?_⟩
  · rw [Memory.read_write_other _ wf' (Nat.lt_succ_self _).ne, Memory.read_write_same _ _ wf, toNat_loByte]
  · rw [Memory.read_write_same _ _ wf', toNat_hiByte]
  · rw [Memory.read_write_other _ wf' hi, Memory.read_write_other _ wf lo]

/-- The last addresses of the windows: the next one is unmapped (R42, R117). -/
theorem window_end {a : Addr} (h : a ∈ [0x8BFF#16, 0x93FF#16, 0x9BFF#16]) :
    inRamWindow a = true ∧ inUnmappedWrite (a + 1) = true := by
  simp only [List.mem_cons, List.not_mem_nil, or_false] at h
  rcases h with rfl | rfl | rfl <;> decide

/-- Settles O28: the pair of writes that ends in the high byte's fault. -/
theorem write16OffTheEndKeepsTheLowByte : Obligations.Write16OffTheEndKeepsTheLowByte := by
  unfold Obligations.Write16OffTheEndKeepsTheLowByte
  intro s c a v hs h
  obtain ⟨ha, off⟩ := window_end h
  have ready : Ready (s.setMem (s.mem.write a.toNat (BitVec.ofNat 8 v.toNat))) := hs
  rw [exec_write16 hs, writePair_off_ram ha off, outcome_raise ready]

/-! ### A faulting step of CPU1 -/

/-- A step of CPU1 that raises a fault is the end of the iteration, which leaves what the engine did before it
(R174, R195). -/
theorem exec_loopIter_of_raise {s u : State} {t : Turn} {rest : List Turn} {k : FaultKind} (hs : Ready s)
    (hu : Ready u) (steps : s.engines.c1.steps = t :: rest)
    (run : runProg .cpu1 (turnProg t) (s.setEngine .cpu1 { s.engines.c1 with steps := rest }) = raise k u) :
    exec .loopIter s = .next (faulted u k) := by
  have step : stepEngine .cpu1 s = .raised (u.setFault (some k)) := by
    rw [stepEngine_of_steps (c := .cpu1) steps, runEngine, PerCpu.get_c1, run, raise_of_ready k hu, Ran.bind_raised]
  exact (fault_of_cpu1_step hs step).1

/-- Settles O55: the fault of the last transaction, or of the engine, in the state that the earlier ones left. -/
theorem earlierTransactionsStandAfterAFault : Obligations.EarlierTransactionsStandAfterAFault := by
  unfold Obligations.EarlierTransactionsStandAfterAFault
  intro s a v w k d rest hs ha
  refine ⟨fun steps => ?_, fun steps => ?_⟩
  · obtain ⟨inWindow, off⟩ := window_end (a := 0x8BFF) (by decide)
    refine exec_loopIter_of_raise hs hs steps ?_
    simp only [turnProg, List.foldr, actProg, runProg, write8_ram ha, Ran.bind_done, writePair_off_ram inWindow off]
    rfl
  · refine exec_loopIter_of_raise hs hs steps ?_
    simp only [turnProg, List.foldr, actProg, runProg, write8_ram ha, Ran.bind_done]
    rfl

end Sys2Proof.Machine

/-!
# Tables and reset

The builders answer their tables, or the record of the first bad byte (`exec_buildColors`, `exec_buildPalettes`). A
`reset()` that completes leaves the cells of R220 and the tables that the builders make (`execReset_of_ok`).
-/
namespace Sys2Proof.Machine

open Sys2Proof.Spec

/-! ### The builders -/

section

variable {s : State} (hs : Ready s)

include hs

theorem exec_buildColors (prom : Vector Byte 32) :
    exec (.buildColors prom) s = .next (s.setReply (.colors (buildColors s.config.colorBits prom))) :=
  issue_ready (i := .buildColors prom) (fun s => .done (.colors (buildColors s.config.colorBits prom)) s) hs rfl

theorem exec_buildPalettes {lookup : Vector Byte 256} (colors : ColorTable)
    (h : ∀ i : Fin 256, (lookup[i]).toNat < 32) :
    exec (.buildPalettes lookup colors) s = .next (s.setReply (.palettes (paletteTable lookup colors))) := by
  have table := buildPalettes_ok lookup colors h
  rw [exec, execBuildPalettes, issue_ready _ hs rfl, table, Ran.outcome_done]

theorem exec_buildPalettes_of_error {lookup : Vector Byte 256} {colors : ColorTable} {k : FaultKind}
    (h : buildPalettes lookup colors = .error k) :
    exec (.buildPalettes lookup colors) s = .next (faulted s k) := by
  rw [exec, execBuildPalettes, issue_ready _ hs rfl, h]
  exact outcome_raise hs k fun answer : Reply => answer

end

/-- Settles O39: each entry of the table is the answer of `decode_color`. -/
theorem buildColorsDecodesEachByte : Obligations.BuildColorsDecodesEachByte := by
  unfold Obligations.BuildColorsDecodesEachByte
  intro s prom hs
  refine ⟨_, exec_buildColors hs prom, fun i => ?_⟩
  have entry : (buildColors s.config.colorBits prom)[i] = decodeColor s.config.colorBits prom[i] :=
    buildColors_get _ prom i i.isLt
  rw [exec_decodeColor hs, entry]

theorem colorAt_val (colors : ColorTable) (k : Fin 32) : colorAt colors k.val = colors[k] := dif_pos k.isLt

/-- Settles O40: each entry of a palette is the colour that its lookup byte numbers. -/
theorem buildPalettesIndexesTheColors : Obligations.BuildPalettesIndexesTheColors := by
  unfold Obligations.BuildPalettesIndexesTheColors
  intro s lookup colors hs h
  refine ⟨_, exec_buildPalettes hs colors h, fun p e k hk => ?_⟩
  calc (paletteTable lookup colors)[p][e]
      = colorAt colors (lookup[4 * p.val + e.val]).toNat := paletteTable_get lookup colors p e p.isLt e.isLt
    _ = colors[k] := by rw [hk, colorAt_val]

/-- Settles O41: the search ends at the first bad byte, and its record is raised. -/
theorem buildPalettesRefusesTheFirstBadByte : Obligations.BuildPalettesRefusesTheFirstBadByte := by
  unfold Obligations.BuildPalettesRefusesTheFirstBadByte
  intro s lookup colors i hs bad before
  exact exec_buildPalettes_of_error hs (buildPalettes_error colors bad before)

/-! ### `reset()` that completes -/

/-- The state that a completed `reset()` leaves: the cells of R220 and both tables. -/
def resetDone (s : State) : State :=
  silent ((resetColored s).setPalettes (paletteTable s.config.charLookup (resetColored s).colors))

/-- A build that is not refused sets both tables (R221). -/
theorem buildTables_of_ok {s : State} {t : PaletteTable}
    (h : buildPalettes s.config.charLookup (buildColors s.config.colorBits s.config.colorProm) = .ok t) :
    buildTables s = .done () ((s.setColors (buildColors s.config.colorBits s.config.colorProm)).setPalettes t) := by
  simp only [buildTables, State.setColors_config, State.setColors_colors, h]

/-- `reset()` completes with a lookup PROM that builds, whatever the state (R220, R221, R196). -/
theorem execReset_of_ok {s : State} (h : LookupOk s.config) : exec .reset s = .next (resetDone s) := by
  have tables : buildTables (resetCells s) = .done () ((resetColored s).setPalettes _) :=
    buildTables_of_ok (buildPalettes_ok s.config.charLookup _ h)
  calc exec .reset s
      = ((buildTables (resetCells s)).map fun _ => Reply.nothing).outcome := rfl
    _ = .next (resetDone s) := by rw [tables]; rfl

/-- Settles O56: the cells are set, and the builders answer the tables in the state that is left. -/
theorem resetRestoresEveryCell : Obligations.ResetRestoresEveryCell := by
  unfold Obligations.ResetRestoresEveryCell
  intro s h
  have ready : Ready (resetDone s) := rfl
  exact ⟨resetDone s, execReset_of_ok h, fun _ => rfl, rfl, rfl, rfl, rfl, rfl, rfl, rfl, rfl, rfl, rfl, rfl, rfl,
    exec_buildColors ready _, exec_buildPalettes ready _ h, rfl⟩

/-- Settles O58: the cells of the state after reset are those of R220, and its tables are built. -/
theorem resetStateIsAFixedPointOfReset : Obligations.ResetStateIsAFixedPointOfReset := by
  unfold Obligations.ResetStateIsAFixedPointOfReset
  obtain ⟨lookup, colors, palettes⟩ := reset_tables_are_built
  have colored : resetColored State.reset = State.reset := by
    rw [resetColored, ← colors]
    rfl
  rw [execReset_of_ok lookup, resetDone, colored, ← palettes]
  rfl

/-- The configuration after reset is one the spec allows (R20, R136, R146). -/
theorem reset_config_wf : State.reset.config.wf = true := by decide +kernel

/-- Settles O59: the state after reset is what `reset()` leaves, which meets the invariant. -/
theorem resetStateMeetsTheInvariant : Obligations.ResetStateMeetsTheInvariant := by
  unfold Obligations.ResetStateMeetsTheInvariant
  exact reset_keeps_inv reset_config_wf resetStateIsAFixedPointOfReset

end Sys2Proof.Machine
